-- ==== Sys2Proof/Word.lean ====
section
/-! DEFINITION. The word types of 00_scope.md rule R12, as bit vectors.
Bit 0 is the least significant bit of every value (rule R11). -/

namespace Sys2Proof

/-- `u8`: one byte of a queue, of the message store, of a response code. -/
abbrev Byte := BitVec 8

/-- `u16`: the checksum register, the packet counters, the `u16-LE` wire fields. -/
abbrev Half := BitVec 16

/-- `u32`: the DATA half of a response (00_scope.md rule R9, DATA_BITS = 32). -/
abbrev Data := BitVec 32

/-- One 64-bit command word (30_encoding.md rule R90, CMD_BITS = 64). -/
abbrev Command := BitVec 64

end Sys2Proof
end

