-- ==== Sys2Proof/Syntax.lean ====
section
/-! DEFINITION. The 25 commands of 30_encoding.md rule R99 as one inductive, with the operands of
rule R98 after extraction: coordinates are integers, sizes and addresses are natural numbers, a
plane is one of three names. The ranges of the fields are checked in WellFormed.lean. -/

namespace Sys2Proof

/-- The three planes of 00_scope.md rule R15. Index 3 is no plane. -/
inductive PlaneId where
  /-- Index 0, CURRENT: what is lit this tick. -/
  | cur
  /-- Index 1, PREVIOUS: what was lit at the last advance. -/
  | prev
  /-- Index 2, PERSISTENT: the sticky flag that suppresses clearing of CURRENT. -/
  | pers
  deriving DecidableEq, Repr

/-- One command. The comment of each constructor names the rule of spec/ that gives its meaning. -/
inductive Instr where
  /-- NOP, 43_control.md rule R280. -/
  | nop
  /-- CRC_INIT, 40_crc.md rule R133. -/
  | crcInit
  /-- CRC_UPDATE D8, 40_crc.md rule R134. -/
  | crcUpdate (d8 : Byte)
  /-- CRC_READ, 40_crc.md rule R135. -/
  | crcRead
  /-- FR_TRY_HEADER, 41_framer.md rule R156. -/
  | frTryHeader
  /-- FR_READ_MESSAGE, 41_framer.md rule R161. -/
  | frReadMessage
  /-- FR_FLUSH, 41_framer.md rule R190. -/
  | frFlush
  /-- FR_CURRENT, 41_framer.md rule R191. -/
  | frCurrent
  /-- FR_STATUS, 41_framer.md rule R192. -/
  | frStatus
  /-- FR_PKT, 41_framer.md rule R193. -/
  | frPkt
  /-- FR_MSG_LEN, 41_framer.md rule R194. -/
  | frMsgLen
  /-- FR_MSG_READ addr, 41_framer.md rule R195. -/
  | frMsgRead (addr : Nat)
  /-- FB_SET plane, x, y, 42_framebuffer.md rule R231. -/
  | fbSet (pl : PlaneId) (x y : Int)
  /-- FB_UNSET plane, x, y, 42_framebuffer.md rule R232. -/
  | fbUnset (pl : PlaneId) (x y : Int)
  /-- FB_IS_SET plane, x, y, 42_framebuffer.md rule R233. -/
  | fbIsSet (pl : PlaneId) (x y : Int)
  /-- FB_CLEAR p, 42_framebuffer.md rule R234; `p` is also_clear_persistent. -/
  | fbClear (p : Bool)
  /-- FB_CLEAR_REGION p, x, y, w, h, 42_framebuffer.md rule R235. -/
  | fbClearRegion (p : Bool) (x y : Int) (wd ht : Nat)
  /-- FB_ADVANCE x, y, 42_framebuffer.md rule R236. -/
  | fbAdvance (x y : Int)
  /-- FB_ADVANCE_ALL, 42_framebuffer.md rule R237. -/
  | fbAdvanceAll
  /-- FB_IS_DIRTY x, y, 42_framebuffer.md rule R238. -/
  | fbIsDirty (x y : Int)
  /-- FB_DIRTY_COUNT, 42_framebuffer.md rule R239. -/
  | fbDirtyCount
  /-- FB_READ_ROW8 plane, xb, y, 42_framebuffer.md rule R240. -/
  | fbReadRow8 (pl : PlaneId) (xb y : Int)
  /-- FB_GEOMETRY, 42_framebuffer.md rule R241. -/
  | fbGeometry
  /-- ERR_READ, 43_control.md rule R281. -/
  | errRead
  /-- ERR_CLEAR D8, 43_control.md rule R282. -/
  | errClear (d8 : Byte)
  deriving DecidableEq, Repr

end Sys2Proof
end

