-- ==== Sys2Proof/WellFormed.lean ====
section
/-! DEFINITION. Which commands have an encoding: every operand fits its field (30_encoding.md
rules R98 and R111, "Range errors"). A u8 operand and a plane fit by their types. -/

namespace Sys2Proof

/-- An s12 operand: x and y of rule R98, in [-2048, 2047]. -/
def fitsS12 (v : Int) : Bool := decide (-2048 ≤ v ∧ v ≤ 2047)

/-- A u12 operand: the width and height of a region, in [0, 4095]. -/
def fitsU12 (n : Nat) : Bool := decide (n < 4096)

/-- A u24 operand: an address of the message store, in [0, 2^24 - 1]. -/
def fitsU24 (n : Nat) : Bool := decide (n < 16777216)

/-- Every operand of the command fits its field. -/
def Instr.wellFormed : Instr → Bool
  | .nop => true
  | .crcInit => true
  | .crcUpdate _ => true
  | .crcRead => true
  | .frTryHeader => true
  | .frReadMessage => true
  | .frFlush => true
  | .frCurrent => true
  | .frStatus => true
  | .frPkt => true
  | .frMsgLen => true
  | .frMsgRead addr => fitsU24 addr
  | .fbSet _ x y => fitsS12 x && fitsS12 y
  | .fbUnset _ x y => fitsS12 x && fitsS12 y
  | .fbIsSet _ x y => fitsS12 x && fitsS12 y
  | .fbClear _ => true
  | .fbClearRegion _ x y wd ht => fitsS12 x && fitsS12 y && fitsU12 wd && fitsU12 ht
  | .fbAdvance x y => fitsS12 x && fitsS12 y
  | .fbAdvanceAll => true
  | .fbIsDirty x y => fitsS12 x && fitsS12 y
  | .fbDirtyCount => true
  | .fbReadRow8 _ xb y => fitsS12 xb && fitsS12 y
  | .fbGeometry => true
  | .errRead => true
  | .errClear _ => true

end Sys2Proof
end

