-- ==== Sys2Proof/Decode.lean ====
section
/-! DEFINITION. The command encoding of 30_encoding.md sections 1 to 3: the seven formats with their
masks, the opcode map, the decoder of rule R113 (total on every 64-bit word, rejecting by name), the
encoder from the same tables, and the carriage of a word as bytes (20_memory.md rule R70). -/

namespace Sys2Proof

/-- The seven formats of 30_encoding.md rules R91 to R97. -/
inductive Format where
  | N | B | P | C | K | R | A
  deriving DecidableEq, Repr

/-- The mask of a format: the bits that hold OP or must be 0 (rules R91 to R97). -/
def Format.mask : Format → Command
  | .N => 0xFFFFFFFFFFFFFFFF#64
  | .B => 0xFFFFFFFFFF00FFFF#64
  | .P => 0xFFFFFF000000FCFF#64
  | .C => 0xFFFFFF000000FFFF#64
  | .K => 0xFFFFFFFFFFFFFBFF#64
  | .R => 0x000000000000FBFF#64
  | .A => 0xFFFFFF000000FFFF#64

/-- The opcode map of 30_encoding.md rule R99, row by row: OP, mnemonic, format. -/
def opcodeMap : List (Byte × String × Format) :=
  [(0x00, "NOP", .N), (0x01, "CRC_INIT", .N), (0x02, "CRC_UPDATE", .B), (0x03, "CRC_READ", .N),
   (0x10, "FR_TRY_HEADER", .N), (0x11, "FR_READ_MESSAGE", .N), (0x12, "FR_FLUSH", .N),
   (0x13, "FR_CURRENT", .N), (0x14, "FR_STATUS", .N), (0x15, "FR_PKT", .N),
   (0x16, "FR_MSG_LEN", .N), (0x17, "FR_MSG_READ", .A), (0x20, "FB_SET", .P),
   (0x21, "FB_UNSET", .P), (0x22, "FB_IS_SET", .P), (0x23, "FB_CLEAR", .K),
   (0x24, "FB_CLEAR_REGION", .R), (0x25, "FB_ADVANCE", .C), (0x26, "FB_ADVANCE_ALL", .N),
   (0x27, "FB_IS_DIRTY", .C), (0x28, "FB_DIRTY_COUNT", .N), (0x29, "FB_READ_ROW8", .P),
   (0x2A, "FB_GEOMETRY", .N), (0x30, "ERR_READ", .N), (0x31, "ERR_CLEAR", .B)]

/-- The format that rule R99 gives an opcode, none for an opcode outside the map. -/
def formatOf (op : Byte) : Option Format :=
  (opcodeMap.find? fun row => row.1 == op).map fun row => row.2.2

/-- Why a word is illegal: the three cases of 30_encoding.md rule R100. -/
inductive IllegalWord where
  /-- Case (a): OP is not in the opcode map. -/
  | unassignedOpcode
  /-- Case (b): a bit that the format marks 0 is 1. -/
  | nonzeroReservedBit
  /-- Case (c): the format is P and PL = 3. -/
  | planeThree
  deriving DecidableEq, Repr

/-- What the decoder answers on one word. -/
inductive Decoded where
  | instr (i : Instr)
  | illegal (why : IllegalWord)
  deriving DecidableEq, Repr

/-- OP = w[7:0]. -/
def fieldOp (w : Command) : Byte := w.extractLsb' 0 8
/-- PL = w[9:8]. -/
def fieldPl (w : Command) : BitVec 2 := w.extractLsb' 8 2
/-- P = w[10]. -/
def fieldP (w : Command) : Bool := w.getLsbD 10
/-- D8 = w[23:16]. -/
def fieldD8 (w : Command) : Byte := w.extractLsb' 16 8
/-- x = sext_12(w[27:16]). -/
def fieldX (w : Command) : Int := (w.extractLsb' 16 12).toInt
/-- y = sext_12(w[39:28]). -/
def fieldY (w : Command) : Int := (w.extractLsb' 28 12).toInt
/-- wd = zext_12(w[51:40]). -/
def fieldW (w : Command) : Nat := (w.extractLsb' 40 12).toNat
/-- ht = zext_12(w[63:52]). -/
def fieldH (w : Command) : Nat := (w.extractLsb' 52 12).toNat
/-- addr = zext_24(w[39:16]). -/
def fieldAddr (w : Command) : Nat := (w.extractLsb' 16 24).toNat

/-- The plane index of 00_scope.md rule R15; 3 is no plane. -/
def planeOfCode (c : BitVec 2) : Option PlaneId :=
  match c.toNat with
  | 0 => some .cur
  | 1 => some .prev
  | 2 => some .pers
  | _ => none

/-- The inverse of `planeOfCode`. -/
def PlaneId.code : PlaneId → BitVec 2
  | .cur => 0#2
  | .prev => 1#2
  | .pers => 2#2

/-- `(w & Mask[f]) == OP`, the second test of rule R113. -/
def fitsFormat (f : Format) (w : Command) : Bool :=
  w &&& f.mask == (fieldOp w).setWidth 64

/-- A command of a format without a plane: legal when the format's zero bits are 0. -/
def decodeAs (f : Format) (w : Command) (i : Instr) : Decoded :=
  if fitsFormat f w then .instr i else .illegal .nonzeroReservedBit

/-- A command of format P: legal when, besides, PL is not 3. -/
def decodePlane (w : Command) (i : PlaneId → Instr) : Decoded :=
  if fitsFormat .P w then
    match planeOfCode (fieldPl w) with
    | some pl => .instr (i pl)
    | none => .illegal .planeThree
  else .illegal .nonzeroReservedBit

/-- The decode procedure of 30_encoding.md rule R113, total on every 64-bit word. -/
def decode (w : Command) : Decoded :=
  match (fieldOp w).toNat with
  | 0x00 => decodeAs .N w .nop
  | 0x01 => decodeAs .N w .crcInit
  | 0x02 => decodeAs .B w (.crcUpdate (fieldD8 w))
  | 0x03 => decodeAs .N w .crcRead
  | 0x10 => decodeAs .N w .frTryHeader
  | 0x11 => decodeAs .N w .frReadMessage
  | 0x12 => decodeAs .N w .frFlush
  | 0x13 => decodeAs .N w .frCurrent
  | 0x14 => decodeAs .N w .frStatus
  | 0x15 => decodeAs .N w .frPkt
  | 0x16 => decodeAs .N w .frMsgLen
  | 0x17 => decodeAs .A w (.frMsgRead (fieldAddr w))
  | 0x20 => decodePlane w fun pl => .fbSet pl (fieldX w) (fieldY w)
  | 0x21 => decodePlane w fun pl => .fbUnset pl (fieldX w) (fieldY w)
  | 0x22 => decodePlane w fun pl => .fbIsSet pl (fieldX w) (fieldY w)
  | 0x23 => decodeAs .K w (.fbClear (fieldP w))
  | 0x24 => decodeAs .R w (.fbClearRegion (fieldP w) (fieldX w) (fieldY w) (fieldW w) (fieldH w))
  | 0x25 => decodeAs .C w (.fbAdvance (fieldX w) (fieldY w))
  | 0x26 => decodeAs .N w .fbAdvanceAll
  | 0x27 => decodeAs .C w (.fbIsDirty (fieldX w) (fieldY w))
  | 0x28 => decodeAs .N w .fbDirtyCount
  | 0x29 => decodePlane w fun pl => .fbReadRow8 pl (fieldX w) (fieldY w)
  | 0x2A => decodeAs .N w .fbGeometry
  | 0x30 => decodeAs .N w .errRead
  | 0x31 => decodeAs .B w (.errClear (fieldD8 w))
  | _ => .illegal .unassignedOpcode

/-- Format N: OP in 7:0, every other bit 0 (rule R91). -/
def encodeN (op : Byte) : Command := 0#56 ++ op

/-- Format B: D8 in 23:16 (rule R92). -/
def encodeB (op d8 : Byte) : Command := 0#40 ++ d8 ++ 0#8 ++ op

/-- Format P: PL in 9:8, X in 27:16, Y in 39:28 (rule R93). -/
def encodeP (op : Byte) (pl : PlaneId) (x y : Int) : Command :=
  0#24 ++ BitVec.ofInt 12 y ++ BitVec.ofInt 12 x ++ 0#6 ++ pl.code ++ op

/-- Format C: X in 27:16, Y in 39:28 (rule R94). -/
def encodeC (op : Byte) (x y : Int) : Command :=
  0#24 ++ BitVec.ofInt 12 y ++ BitVec.ofInt 12 x ++ 0#8 ++ op

/-- Format K: P in bit 10 (rule R95). -/
def encodeK (op : Byte) (p : Bool) : Command := 0#53 ++ BitVec.ofBool p ++ 0#2 ++ op

/-- Format R: P in bit 10, X, Y, W, H in the four 12-bit fields from bit 16 up (rule R96). -/
def encodeR (op : Byte) (p : Bool) (x y : Int) (wd ht : Nat) : Command :=
  BitVec.ofNat 12 ht ++ BitVec.ofNat 12 wd ++ BitVec.ofInt 12 y ++ BitVec.ofInt 12 x ++ 0#5 ++
    BitVec.ofBool p ++ 0#2 ++ op

/-- Format A: ADDR in 39:16 (rule R97). -/
def encodeA (op : Byte) (addr : Nat) : Command := 0#24 ++ BitVec.ofNat 24 addr ++ 0#8 ++ op

/-- The word of a command. It is the command's one encoding when the command is well-formed. -/
def encode : Instr → Command
  | .nop => encodeN 0x00
  | .crcInit => encodeN 0x01
  | .crcUpdate d8 => encodeB 0x02 d8
  | .crcRead => encodeN 0x03
  | .frTryHeader => encodeN 0x10
  | .frReadMessage => encodeN 0x11
  | .frFlush => encodeN 0x12
  | .frCurrent => encodeN 0x13
  | .frStatus => encodeN 0x14
  | .frPkt => encodeN 0x15
  | .frMsgLen => encodeN 0x16
  | .frMsgRead addr => encodeA 0x17 addr
  | .fbSet pl x y => encodeP 0x20 pl x y
  | .fbUnset pl x y => encodeP 0x21 pl x y
  | .fbIsSet pl x y => encodeP 0x22 pl x y
  | .fbClear p => encodeK 0x23 p
  | .fbClearRegion p x y wd ht => encodeR 0x24 p x y wd ht
  | .fbAdvance x y => encodeC 0x25 x y
  | .fbAdvanceAll => encodeN 0x26
  | .fbIsDirty x y => encodeC 0x27 x y
  | .fbDirtyCount => encodeN 0x28
  | .fbReadRow8 pl xb y => encodeP 0x29 pl xb y
  | .fbGeometry => encodeN 0x2A
  | .errRead => encodeN 0x30
  | .errClear d8 => encodeB 0x31 d8

/-- The opcode of a command (rule R99). -/
def Instr.opcode : Instr → Byte
  | .nop => 0x00
  | .crcInit => 0x01
  | .crcUpdate _ => 0x02
  | .crcRead => 0x03
  | .frTryHeader => 0x10
  | .frReadMessage => 0x11
  | .frFlush => 0x12
  | .frCurrent => 0x13
  | .frStatus => 0x14
  | .frPkt => 0x15
  | .frMsgLen => 0x16
  | .frMsgRead _ => 0x17
  | .fbSet _ _ _ => 0x20
  | .fbUnset _ _ _ => 0x21
  | .fbIsSet _ _ _ => 0x22
  | .fbClear _ => 0x23
  | .fbClearRegion _ _ _ _ _ => 0x24
  | .fbAdvance _ _ => 0x25
  | .fbAdvanceAll => 0x26
  | .fbIsDirty _ _ => 0x27
  | .fbDirtyCount => 0x28
  | .fbReadRow8 _ _ _ => 0x29
  | .fbGeometry => 0x2A
  | .errRead => 0x30
  | .errClear _ => 0x31

/-- A value carried as `n` bytes, least significant byte first (20_memory.md rule R70). -/
def bytesLE {k : Nat} : Nat → BitVec k → List Byte
  | 0, _ => []
  | n + 1, v => v.setWidth 8 :: bytesLE n (v >>> 8)

/-- The value that bytes carry, least significant byte first. -/
def ofBytesLE {k : Nat} : List Byte → BitVec k
  | [] => 0
  | b :: rest => (ofBytesLE rest : BitVec k) <<< 8 ||| b.setWidth k

/-- A command word as the 8 bytes a host bus carries (rule R70). -/
def commandBytes (w : Command) : List Byte := bytesLE 8 w

/-- What the decoder answers on a byte stream. -/
inductive StreamDecoded where
  /-- The first 8 bytes are one command word; the rest of the stream follows. -/
  | word (d : Decoded) (rest : List Byte)
  /-- Fewer than the 8 bytes of one command word. -/
  | tooShort
  deriving DecidableEq, Repr

/-- Decode from bytes: every command is 8 bytes, least significant first (rules R70 and R90). -/
def decodeBytes (bs : List Byte) : StreamDecoded :=
  if bs.length < 8 then .tooShort else .word (decode (ofBytesLE (bs.take 8))) (bs.drop 8)

/-- The 64-bit word of an opcode-table row whose `nbits` bits are `w`; every bit above them is 0. -/
def tableWord (nbits w : Nat) : Command := BitVec.ofNat 64 (w % 2 ^ nbits)

/-- The command that the decoder reads from the word of an opcode-table row, laid out as the 8 bytes
that carry it; none where the decoder refuses. -/
def decodeTableWord (nbits w : Nat) : Option Instr :=
  match decodeBytes (commandBytes (tableWord nbits w)) with
  | .word (.instr i) _ => some i
  | _ => none

end Sys2Proof
end

