-- ==== Sys2Proof/Config.lean ====
section
/-! DEFINITION. What an implementation fixes: the parameters of 00_scope.md rule R9.

The six parameters that the spec leaves OPEN are carried by the state of a model instance
(`Machine.State.params`), so that a statement over every state is a statement over every value of
them. No step ever writes them. The state right after reset takes them from the opaque constants
below, which have no body: nothing can prove a value of one, only the range that its type gives
(DESIGN CHOICE, safe, log entry 1). -/

namespace Sys2Proof

/-- The OPEN parameters of 00_scope.md rule R9. -/
structure Params where
  /-- FB_W, the framebuffer's width in pixels, 1 to 2047 (D5, D6). -/
  fbW : Nat
  /-- FB_H, the framebuffer's height in pixels, 1 to 2047 (D5, D6). -/
  fbH : Nat
  /-- MSG_CAP, the capacity of the message store in bytes, 1 to 2^24 (D29). -/
  msgCap : Nat
  /-- CLK_BITS, the width of the millisecond counter, at least 1 (D35). -/
  clkBits : Nat
  /-- RETRY_DELAY_MS, less than 2^CLK_BITS (D25, 70_reset_and_hazards.md rule R356). The model is
  untimed (rule R361): only `Machine.retryDelayOver` reads it, and no step does. -/
  retryDelayMs : Nat
  /-- RX_TIMEOUT_MS (D24, D36). The model is untimed: the timeout is a step the block may take, and
  nothing reads its length. -/
  rxTimeoutMs : Nat
  deriving DecidableEq, Repr

/-- The ranges that 00_scope.md rule R9 and 70_reset_and_hazards.md rule R356 give the parameters. -/
abbrev Params.Legal (p : Params) : Prop :=
  (1 ≤ p.fbW ∧ p.fbW ≤ 2047) ∧ (1 ≤ p.fbH ∧ p.fbH ≤ 2047) ∧
  (1 ≤ p.msgCap ∧ p.msgCap ≤ 2 ^ 24) ∧ 1 ≤ p.clkBits ∧ p.retryDelayMs < 2 ^ p.clkBits

namespace Config

/-- FB_W - 1 of this instance: OPEN, so no value can be proved of it. -/
opaque fbWLessOne : Fin 2047

/-- FB_H - 1 of this instance: OPEN. -/
opaque fbHLessOne : Fin 2047

/-- MSG_CAP - 1 of this instance: OPEN. -/
opaque msgCapLessOne : Fin 16777216

/-- CLK_BITS - 1 of this instance: OPEN. -/
opaque clkBitsLessOne : Nat

/-- The number whose remainder modulo 2^CLK_BITS is RETRY_DELAY_MS: OPEN. -/
opaque retryDelay : Nat

/-- RX_TIMEOUT_MS of this instance: OPEN. -/
opaque rxTimeout : Nat

/-- The parameters of this model instance. Every legal value of `Params` is a possible one, and
`Laws.config_params_legal` proves that no other is. -/
def params : Params where
  fbW := fbWLessOne.val + 1
  fbH := fbHLessOne.val + 1
  msgCap := msgCapLessOne.val + 1
  clkBits := clkBitsLessOne + 1
  retryDelayMs := retryDelay % 2 ^ (clkBitsLessOne + 1)
  rxTimeoutMs := rxTimeout

end Config

end Sys2Proof
end

