-- ==== Sys2Proof/Machine/State.lean ====
section
/-! DEFINITION. The machine's state as plain data: every element of 10_state.md rule R20, the
parameters of 00_scope.md rule R9, the command port's response and the agents' coming moves; the
reasons a step can stop; the state after reset (70_reset_and_hazards.md rule R341). -/

namespace Sys2Proof.Machine

/-- SESSION_STATE (10_state.md rule R28). -/
inductive SessionState where
  /-- 0: no session, no message held. -/
  | idle
  /-- 1: a header was accepted, no packet read yet. -/
  | headerRead
  /-- 2: FR_READ_MESSAGE is in its packet loop; hidden from the host (rule R39). -/
  | payloadRead
  /-- 3: all declared packets accepted, message held until FR_FLUSH. -/
  | complete
  /-- 4: the last session ended in a session-fatal error, no message held. -/
  | aborted
  deriving DecidableEq, Repr

/-- FR_PHASE (10_state.md rule R34): the sub-step of the packet loop. -/
inductive Phase where
  | none
  | readPrefix
  | readPayload
  | checkPacket
  | retryWait
  deriving DecidableEq, Repr

/-- GEOM0 (10_state.md rule R33): bytes_per_frame, rows and columns of frame 0. -/
structure Geometry where
  bpf : Half
  rows : Byte
  cols : Byte
  deriving DecidableEq, Repr

/-- A response `(RES, DATA)` (30_encoding.md rule R101). -/
structure Response where
  res : Byte
  data : Data
  deriving DecidableEq, Repr

/-- One (x, y) position of the framebuffer, a cell of 00_scope.md rule R17. -/
structure Pixel where
  x : Nat
  y : Nat
  deriving DecidableEq, Repr

/-- One plane of the pixel space (20_memory.md rule R63) as the list of its cells whose bit is 1, in
row-major order with no repeats; a cell that is not listed holds 0 (log entry 13). -/
abbrev PixelPlane := List Pixel

/-- The message store (20_memory.md rule R61): the listed addresses strictly rise and hold a byte other
than 0x00; an address that is not listed reads 0x00 (DESIGN CHOICE, log entry 10). -/
abbrev Memory := List Host.Cell

/-- One move of one agent (00_scope.md rule R8; 20_memory.md rule R80). -/
inductive Move where
  /-- The host presents a command word at the port. -/
  | command (w : Command)
  /-- The transport appends one byte to the back of RXQ. -/
  | receive (b : Byte)
  /-- The transport removes the byte at the front of TXQ and delivers it to the sender. -/
  | deliver
  /-- The clock advances CLK by one millisecond. -/
  | tick
  /-- The block takes one step of its own. -/
  | block
  /-- The platform asserts reset. -/
  | reset
  deriving DecidableEq, Repr

/-- The state of one model instance. -/
structure State where
  /-- The OPEN parameters of this instance (00_scope.md rule R9). No step writes them. -/
  params : Params
  /-- CRC_REG (10_state.md rule R23). -/
  crcReg : Half
  /-- ERR (rule R24): bit 0 ILLEGAL, bit 1 BOUNDS, bits 7:2 hard-wired to 0. -/
  err : Byte
  /-- LAST_RESULT (rule R25): the last byte that TxSend sent. -/
  lastResult : Byte
  /-- BUSY (rule R26): a command was accepted and has not responded. -/
  busy : Bool
  /-- CLK (rule R27): the millisecond counter, an input of width CLK_BITS. -/
  clk : Nat
  /-- SESSION_STATE (rule R28). -/
  sessionState : SessionState
  /-- SESSION_TYPE (rule R29): the type identifier of the held message. -/
  sessionType : Byte
  /-- PKT_COUNT (rule R30): how many packets the session declares. -/
  pktCount : Half
  /-- PKT_INDEX (rule R31): how many packets of the session were accepted. -/
  pktIndex : Half
  /-- MSG (rule R32): the message store's bytes. -/
  msg : Memory
  /-- MSG_LEN (rule R32): how many of them are valid. -/
  msgLen : BitVec 25
  /-- GEOM0 (rule R33). -/
  geom0 : Geometry
  /-- FR_PHASE (rule R34). -/
  frPhase : Phase
  /-- PKT_CRC (rule R35): the declared checksum of the packet being read. -/
  pktCrc : Half
  /-- PKT_LEN (rule R35): its declared length. -/
  pktLen : Half
  /-- PKT_BUF (rule R35): its received payload. -/
  pktBuf : List Byte
  /-- RXQ (rule R36): bytes received and not consumed, oldest first. -/
  rxq : List Byte
  /-- TXQ (rule R36): result bytes sent and not delivered, oldest first. -/
  txq : List Byte
  /-- Plane 0, CURRENT (rule R40). -/
  planeCur : PixelPlane
  /-- Plane 1, PREVIOUS (rule R40). -/
  planePrev : PixelPlane
  /-- Plane 2, PERSISTENT (rule R40). -/
  planePers : PixelPlane
  /-- What the command port shows the host: the response of the last command, none while a command
  runs and before the first one. The model's own field (log entry 3). -/
  response : Option Response
  /-- The agents' coming moves, oldest first. The model's own field (log entry 2). -/
  agenda : List Move
  deriving DecidableEq, Repr

/-- Why a step stops with a fault. The block has no fault of its own (60_exceptions.md rule R300). -/
inductive Fault where
  /-- FR_READ_MESSAGE executed while SESSION_STATE = PAYLOAD_READ. Raised by `execFrReadMessage` only.
  41_framer.md rule R161 gives no meaning there, since the port takes no command while the packet loop
  runs (10_state.md rule R39): no state that `State.Inv` holds of raises it. Safe (log entry 14). -/
  | readMessageInPacketLoop
  deriving DecidableEq, Repr

/-- Why a step is refused. -/
inductive Refusal where
  /-- The instruction has no meaning in the model. Raised by no arm: every command is modelled. Safe. -/
  | notModelled (mnemonic : String)
  deriving DecidableEq, Repr

/-- The machine right after reset (70_reset_and_hazards.md rule R341). Where that rule says
"unspecified", the value is the model's: CLK (log entry 9), MSG (log entry 10), GEOM0, PKT_CRC, PKT_LEN
and PKT_BUF (log entry 11). The parameters are opaque (log entry 1); nothing is on the agenda and the
port shows no response (log entries 2 to 4). -/
def State.reset : State where
  params := Config.params
  crcReg := 0xFFFF#16
  err := 0x00#8
  lastResult := 0x00#8
  busy := false
  clk := 0
  sessionState := .idle
  sessionType := 0x00#8
  pktCount := 0#16
  pktIndex := 0#16
  msg := []
  msgLen := 0#25
  geom0 := ⟨0#16, 0#8, 0#8⟩
  frPhase := .none
  pktCrc := 0#16
  pktLen := 0#16
  pktBuf := []
  rxq := []
  txq := []
  planeCur := []
  planePrev := []
  planePers := []
  response := none
  agenda := []

end Sys2Proof.Machine
end

