-- ==== Sys2Proof/Machine/Operands.lean ====
section
/-! DEFINITION. Operand forms: the little-endian fields of byte sequences (00_scope.md rule R13), the
bounds test of a cell (42_framebuffer.md rule R230), the region of a clear (rule R235) and the byte
columns of the byte-row view (20_memory.md rule R64). Comparisons and sums are over unbounded integers
(00_scope.md rule R12). -/

namespace Sys2Proof.Machine

/-- Byte i of a sequence, counted from 0 (00_scope.md rule R13). Past the end it is 0x00, which no
check of the framer ever uses (log entry 19). -/
def byteAt (s : List Byte) (i : Nat) : Byte := s.getD i 0#8

/-- `u16le(s, i)`: the little-endian 16-bit field at offset i (rule R13). -/
def u16le (s : List Byte) (i : Nat) : Half := byteAt s (i + 1) ++ byteAt s i

/-- `ceil8(c) = (c + 7) div 8` (00_scope.md rule R12). -/
def ceil8 (c : Nat) : Nat := (c + 7) / 8

/-- `InB(x, y)` (42_framebuffer.md rule R230). -/
abbrev InB (p : Params) (x y : Int) : Prop :=
  (0 ≤ x ∧ x < p.fbW) ∧ (0 ≤ y ∧ y < p.fbH)

/-- The cell of in-bounds coordinates. -/
def pixelAt (x y : Int) : Pixel := ⟨x.toNat, y.toNat⟩

/-- The cell is on the screen. -/
def onScreen (p : Params) (c : Pixel) : Bool := decide (c.x < p.fbW ∧ c.y < p.fbH)

/-- The cell lies in the columns [x, x + wd) and the rows [y, y + ht) and on the screen
(42_framebuffer.md rule R235). -/
def inRegion (p : Params) (x y : Int) (wd ht : Nat) (c : Pixel) : Bool :=
  decide ((x ≤ c.x ∧ (c.x : Int) < x + wd) ∧ (y ≤ c.y ∧ (c.y : Int) < y + ht)) && onScreen p c

/-- Every cell of the screen, row by row. -/
def screenCells (p : Params) : List Pixel :=
  (List.range p.fbH).flatMap fun y => (List.range p.fbW).map fun x => ⟨x, y⟩

/-- xb and y name a byte of the byte-row view (20_memory.md rule R64; 42_framebuffer.md rule R240). -/
abbrev InRowView (p : Params) (xb y : Int) : Prop :=
  (0 ≤ xb ∧ xb < (ceil8 p.fbW : Nat)) ∧ (0 ≤ y ∧ y < p.fbH)

end Sys2Proof.Machine
end

