-- ==== Sys2Proof/Machine/Ops.lean ====
section
/-! DEFINITION. The shared operations: the message store's bytes, the planes' bits, the queues
(41_framer.md rules R151 to R153), the response (30_encoding.md rule R101) and the block's two port
errors (60_exceptions.md rules R303 and R304), which take the place of exceptions: the block has no
traps and nothing to return from (rule R300). -/

namespace Sys2Proof.Machine

/-! ### The message store -/

/-- What an address that is not listed reads as: 0x00 (DESIGN CHOICE, log entry 10). -/
abbrev unlistedByte : Byte := 0x00#8

/-- The byte at an address of the message store. -/
def Memory.read (a : Nat) : Memory → Byte
  | [] => unlistedByte
  | (k, v) :: rest => if k = a then v else Memory.read a rest

/-- The store with no entry for an address. -/
def Memory.without (a : Nat) (m : Memory) : Memory := m.filter fun cell => cell.1 != a

/-- The store with an entry for an address put where its order says. -/
def Memory.place (a : Nat) (b : Byte) : Memory → Memory
  | [] => [(a, b)]
  | (k, v) :: rest => if a < k then (a, b) :: (k, v) :: rest else (k, v) :: Memory.place a b rest

/-- Write one byte; writing the byte that an unlisted address reads as removes the entry. -/
def Memory.write (a : Nat) (b : Byte) (m : Memory) : Memory :=
  if b = unlistedByte then m.without a else (m.without a).place a b

/-- Write consecutive bytes from an address up. -/
def Memory.writeBytes (a : Nat) : List Byte → Memory → Memory
  | [], m => m
  | b :: rest, m => Memory.writeBytes (a + 1) rest (m.write a b)

/-- The canonical form: addresses strictly rise and no entry holds what an unlisted address reads. -/
def Memory.wf : Memory → Bool
  | [] => true
  | (k, v) :: rest =>
    v != unlistedByte && rest.all (fun cell => decide (k < cell.1)) && Memory.wf rest

/-! ### The planes -/

/-- Row-major order of cells. -/
def Pixel.before (c d : Pixel) : Bool := decide (c.y < d.y ∨ (c.y = d.y ∧ c.x < d.x))

/-- The bit of one cell of a plane (10_state.md rule R40). -/
def PixelPlane.lit (p : PixelPlane) (c : Pixel) : Bool := decide (c ∈ p)

/-- Set the bit of one cell. -/
def PixelPlane.setBit (c : Pixel) : PixelPlane → PixelPlane
  | [] => [c]
  | d :: rest =>
    if c = d then d :: rest
    else if c.before d then c :: d :: rest
    else d :: PixelPlane.setBit c rest

/-- Clear the bit of every cell that a test picks. -/
def PixelPlane.clearIf (pick : Pixel → Bool) (p : PixelPlane) : PixelPlane :=
  p.filter fun c => !pick c

/-- Clear the bit of one cell. -/
def PixelPlane.clearBit (c : Pixel) (p : PixelPlane) : PixelPlane := p.clearIf fun d => decide (d = c)

/-- Give the bit of one cell a value. -/
def PixelPlane.writeBit (c : Pixel) (bit : Bool) (p : PixelPlane) : PixelPlane :=
  if bit then p.setBit c else p.clearBit c

/-- The canonical form: row-major order with no repeats. -/
def PixelPlane.wf : PixelPlane → Bool
  | [] => true
  | c :: rest => rest.all (fun d => c.before d) && PixelPlane.wf rest

/-- One plane of the machine. -/
def State.plane (s : State) : PlaneId → PixelPlane
  | .cur => s.planeCur
  | .prev => s.planePrev
  | .pers => s.planePers

/-- The machine with one plane replaced. -/
def State.withPlane (s : State) : PlaneId → PixelPlane → State
  | .cur, p => { s with planeCur := p }
  | .prev, p => { s with planePrev := p }
  | .pers, p => { s with planePers := p }

/-- `Plane[pl][x][y]` (10_state.md rule R40). -/
def State.pixel (s : State) (pl : PlaneId) (c : Pixel) : Bool := (s.plane pl).lit c

/-- `Plane[pl][x][y] <- bit`. -/
def State.writePixel (s : State) (pl : PlaneId) (c : Pixel) (bit : Bool) : State :=
  s.withPlane pl ((s.plane pl).writeBit c bit)

/-- `Dirty(x, y) = Plane[CUR][x][y] ^ Plane[PREV][x][y]` (10_state.md rule R42). -/
def State.dirty (s : State) (c : Pixel) : Bool := s.pixel .cur c ^^ s.pixel .prev c

/-! ### Responses and port errors -/

/-- `Respond(res, data)`: show the host the response and clear BUSY (30_encoding.md rule R101). -/
def State.respond (s : State) (res : Byte) (data : Data) : State :=
  { s with response := some ⟨res, data⟩, busy := false }

/-- The response Ok with a DATA value (30_encoding.md rule R102). -/
def State.ok (s : State) (data : Data) : State := s.respond 0x01#8 data

/-- The two errors of the command port (60_exceptions.md rules R303 and R304). -/
inductive PortError where
  /-- Illegal: ERR bit 0, RES 0x80. -/
  | illegal
  /-- Bounds: ERR bit 1, RES 0x81. -/
  | bounds
  deriving DecidableEq, Repr

/-- The bit of ERR that an error sets (10_state.md rule R24). -/
def PortError.errBit : PortError → Byte
  | .illegal => 0x01#8
  | .bounds => 0x02#8

/-- The response code of an error (30_encoding.md rule R102). -/
def PortError.code : PortError → Byte
  | .illegal => 0x80#8
  | .bounds => 0x81#8

/-- The bits of ERR that exist; bits 7:2 are hard-wired to 0 (10_state.md rule R24; log entry 16). -/
abbrev errMask : Byte := 0x03#8

/-- ERR as it reads. -/
def State.readErr (s : State) : Byte := s.err &&& errMask

/-- Write ERR; the hard-wired bits discard the write. -/
def State.writeErr (s : State) (v : Byte) : State := { s with err := v &&& errMask }

/-- `raise Illegal()` and `raise Bounds()`: set the error's bit of ERR and respond with its code and
DATA 0, nothing else (60_exceptions.md rules R303 and R304). -/
def State.raise (s : State) (e : PortError) : State :=
  (s.writeErr (s.readErr ||| e.errBit)).respond e.code 0#32

/-! ### The queues -/

/-- `TxSend(b)` (41_framer.md rule R153). -/
def State.txSend (s : State) (b : Byte) : State := { s with txq := s.txq ++ [b], lastResult := b }

/-- Take n bytes from the front of RXQ, or all of them where there are fewer. -/
def State.consume (s : State) (n : Nat) : State := { s with rxq := s.rxq.drop n }

/-- `RxRead(n)` (41_framer.md rule R152) as the one step it is at the block's turn: complete with n
bytes when RXQ holds as many, short with all of RXQ when it holds fewer, and empty at once when n = 0.
A short read discards what it consumed (log entry 7). -/
def State.rxRead (s : State) (n : Nat) : List Byte × State := (s.rxq.take n, s.consume n)

end Sys2Proof.Machine
end

