-- ==== Sys2Proof/Machine/Flags.lean ====
section
/-! DEFINITION. The flag-like state and the status views of 10_state.md rules R44 and R45: how each
view's DATA word is put together from the fields of the state, most significant field first. -/

namespace Sys2Proof.Machine

/-- The 3-bit encoding of SESSION_STATE (10_state.md rule R28). -/
def SessionState.code : SessionState → BitVec 3
  | .idle => 0#3
  | .headerRead => 1#3
  | .payloadRead => 2#3
  | .complete => 3#3
  | .aborted => 4#3

/-- A message is held and the host can see it: SESSION_STATE is HEADER_READ or COMPLETE
(41_framer.md rules R157, R191 and R195). -/
def State.holdsMessage (s : State) : Bool :=
  match s.sessionState with
  | .headerRead => true
  | .complete => true
  | .idle => false
  | .payloadRead => false
  | .aborted => false

/-- The session is COMPLETE. -/
def State.isComplete (s : State) : Bool := decide (s.sessionState = .complete)

/-- The CRC view: [15:0] CRC_REG. -/
def State.crcView (s : State) : Data := s.crcReg.setWidth 32

/-- The ERR view: [0] ILLEGAL, [1] BOUNDS. -/
def State.errView (s : State) : Data := s.readErr.setWidth 32

/-- The CURRENT MESSAGE view: [0] held, [1] complete, [15:8] SESSION_TYPE. -/
def State.currentView (s : State) : Data :=
  0#16 ++ s.sessionType ++ 0#6 ++ BitVec.ofBool s.isComplete ++ BitVec.ofBool s.holdsMessage

/-- The STATUS view: [2:0] SESSION_STATE, [15:8] LAST_RESULT, [23:16] SESSION_TYPE. -/
def State.statusView (s : State) : Data :=
  0#8 ++ s.sessionType ++ s.lastResult ++ 0#5 ++ s.sessionState.code

/-- The PACKETS view: [15:0] PKT_INDEX, [31:16] PKT_COUNT. -/
def State.packetsView (s : State) : Data := s.pktCount ++ s.pktIndex

/-- The MESSAGE LENGTH view: [24:0] MSG_LEN. -/
def State.msgLenView (s : State) : Data := s.msgLen.setWidth 32

/-- The GEOMETRY view: [15:0] FB_W, [31:16] FB_H, hard-wired. -/
def State.geometryView (s : State) : Data :=
  BitVec.ofNat 16 s.params.fbH ++ BitVec.ofNat 16 s.params.fbW

/-- A response as the bytes a host bus carries: RES, then DATA least significant byte first
(20_memory.md rule R70). -/
def responseBytes (r : Response) : List Byte :=
  [r.res, r.data.extractLsb' 0 8, r.data.extractLsb' 8 8, r.data.extractLsb' 16 8,
    r.data.extractLsb' 24 8]

end Sys2Proof.Machine
end

