-- ==== Sys2Proof/Machine/Crc.lean ====
section
/-! DEFINITION. The CRC unit: the checksum of 40_crc.md rules R131 and R132 and the three commands of
rules R133 to R135. The framer's check (41_framer.md rule R165) uses the same function on its own
state and never touches CRC_REG (rule R140). -/

namespace Sys2Proof.Machine

/-- One shift of the register: left by one, with the polynomial XORed in when the bit shifted out was
1 (40_crc.md rule R131). -/
def crcShift (c : Half) : Half := if c.msb then (c <<< 1) ^^^ 0x1021#16 else c <<< 1

/-- n shifts of the register. -/
def crcShifts : Nat → Half → Half
  | 0, c => c
  | n + 1, c => crcShifts n (crcShift c)

/-- `CrcStep(c, b)`: fold one byte into the register (rule R131). -/
def crcStep (c : Half) (b : Byte) : Half := crcShifts 8 (c ^^^ (b.setWidth 16 <<< 8))

/-- `Fold(c, t)`: fold each byte of a sequence in order (rule R136). -/
def crcFold (c : Half) (s : List Byte) : Half := s.foldl crcStep c

/-- The initial register of every checksum, CRC_SEED (00_scope.md rule R9). -/
abbrev crcSeed : Half := 0xFFFF#16

/-- `Crc16(s)`: the checksum of a byte sequence, no final XOR (rule R132). -/
def crc16 (s : List Byte) : Half := crcFold crcSeed s

/-- CRC_INIT (rule R133). -/
def execCrcInit (s : State) : Host.Outcome State Fault Refusal :=
  .next ({ s with crcReg := crcSeed }.ok (crcSeed.setWidth 32))

/-- CRC_UPDATE D8 (rule R134). -/
def execCrcUpdate (d8 : Byte) (s : State) : Host.Outcome State Fault Refusal :=
  .next ({ s with crcReg := crcStep s.crcReg d8 }.ok ((crcStep s.crcReg d8).setWidth 32))

/-- CRC_READ (rule R135). -/
def execCrcRead (s : State) : Host.Outcome State Fault Refusal :=
  .next (s.ok s.crcView)

end Sys2Proof.Machine
end

