-- ==== Sys2Proof/Machine/Wire.lean ====
section
/-! DEFINITION. The wire encoding of 30_encoding.md section 5: the result bytes, the type identifiers,
the session header and the frame as the sender transmits them, and the fields of the three payload
layouts. -/

namespace Sys2Proof.Machine

/-- Ok as a result byte and as RES (30_encoding.md rules R102 and R105). -/
abbrev resOk : Byte := 0x01#8
/-- InternalError (rules R102 and R105). -/
abbrev resInternalError : Byte := 0x02#8
/-- ChecksumMismatch, on TXQ only (rules R102 and R105). -/
abbrev resChecksumMismatch : Byte := 0x03#8
/-- UnexpectedData (rules R102 and R105). -/
abbrev resUnexpectedData : Byte := 0x05#8
/-- NONE, in RES only (rule R102). -/
abbrev resNone : Byte := 0x00#8

/-- AnimationFrames, the only multi-packet type (rule R106; 00_scope.md rule R18). -/
abbrev typeAnimation : Byte := 0x10#8
/-- GameOfLifeConfig (rule R106). -/
abbrev typeGameOfLife : Byte := 0x11#8
/-- DotMatrixCommand (rule R106). -/
abbrev typeCommand : Byte := 0x12#8

/-- A u16 as its two wire bytes, least significant first (20_memory.md rule R67). -/
def u16Bytes (v : Half) : List Byte := [v.setWidth 8, (v >>> 8).setWidth 8]

/-- A session header (rule R103). -/
inductive SessionHeader where
  | animation (packetCount : Half)
  | gameOfLife
  | command
  deriving DecidableEq, Repr

/-- The bytes of a session header on the wire (rule R103). -/
def headerBytes : SessionHeader → List Byte
  | .animation n => typeAnimation :: u16Bytes n
  | .gameOfLife => [typeGameOfLife]
  | .command => [typeCommand]

/-- A frame as the sender transmits it: checksum, length, payload (rule R104). -/
def frameBytes (payload : List Byte) : List Byte :=
  u16Bytes (crc16 payload) ++ u16Bytes (BitVec.ofNat 16 payload.length) ++ payload

/-! ### AnimationFrames payload (rules R107 and R110) -/

/-- Offset 0: index. Stored, neither checked nor used (41_framer.md rule R178). -/
def frameIndex (s : List Byte) : Half := u16le s 0
/-- Offset 2: bytes_per_frame. -/
def frameBpf (s : List Byte) : Half := u16le s 2
/-- Offset 4: rows. -/
def frameRows (s : List Byte) : Byte := byteAt s 4
/-- Offset 5: columns. -/
def frameCols (s : List Byte) : Byte := byteAt s 5
/-- Offset 6: frame_time_ms. Stored, not interpreted. -/
def frameTimeMs (s : List Byte) : Half := u16le s 6
/-- Offset 8: repeats. Stored, not interpreted. -/
def frameRepeats (s : List Byte) : Byte := byteAt s 8
/-- The geometry that all frames of a message share (41_framer.md rule R175). -/
def frameGeometry (s : List Byte) : Geometry := ⟨frameBpf s, frameRows s, frameCols s⟩
/-- The bitmap bytes, from offset 9. -/
def frameBitmap (s : List Byte) : List Byte := (s.drop 9).take (frameBpf s).toNat
/-- The pixel at column c and row r: byte 9 + r·ceil8(columns) + c div 8, bit 7 - (c mod 8)
(rule R110). -/
def framePixel (s : List Byte) (c r : Nat) : Bool :=
  (byteAt s (9 + r * ceil8 (frameCols s).toNat + c / 8)).getLsbD (7 - c % 8)

/-! ### GameOfLifeConfig and DotMatrixCommand payloads (rules R108 and R109) -/

/-- Offset 0: tick_interval_ms. -/
def golIntervalMs (s : List Byte) : Half := u16le s 0
/-- How many (x, y) pairs the payload holds. -/
def golPairCount (s : List Byte) : Nat := (s.length - 2) / 2
/-- Pair k, (x, y). -/
def golPair (s : List Byte) (k : Nat) : Byte × Byte := (byteAt s (2 + 2 * k), byteAt s (3 + 2 * k))
/-- The command byte. -/
def commandCode (s : List Byte) : Byte := byteAt s 0

end Sys2Proof.Machine
end

