-- ==== Sys2Proof/Machine/Framer.lean ====
section
/-! DEFINITION. The framer (41_framer.md): reading a session header, the packet loop with checksum
check, retry, validation and commit, abort, and the framer's eight commands. -/

namespace Sys2Proof.Machine

/-! ### Header (section 3) -/

/-- `HeaderLen(t)` (41_framer.md rule R155). -/
def headerLen (t : Byte) : Nat := if t = typeAnimation then 3 else 1

/-- A rejected header: send 0x05, SESSION_STATE becomes IDLE, respond (0x05, 0) (rules R158, R159). -/
def State.rejectHeader (s : State) : State :=
  ({ s with sessionState := .idle }.txSend resUnexpectedData).respond resUnexpectedData 0#32

/-- An accepted header: a session of type t with n packets starts; send 0x01, respond (0x01, 1)
(rule R156). -/
def State.openSession (s : State) (t : Byte) (n : Half) : State :=
  ({ s with sessionType := t, pktCount := n, pktIndex := 0#16, msgLen := 0#25,
            sessionState := .headerRead }.txSend resOk).respond resOk 1#32

/-- FR_TRY_HEADER when no message is held (rule R156): nothing is consumed until the whole header of
the type at the front of RXQ is there. -/
def State.tryHeader (s : State) : State :=
  match s.rxq with
  | [] => s.respond resNone 0#32
  | t :: _ =>
    if s.rxq.length < headerLen t then s.respond resNone 0#32
    else if t = typeAnimation then
      if u16le s.rxq 1 = 0#16 then (s.consume 3).rejectHeader
      else (s.consume 3).openSession t (u16le s.rxq 1)
    else if t = typeGameOfLife ∨ t = typeCommand then (s.consume 1).openSession t 1#16
    else (s.consume 1).rejectHeader

/-! ### Abort (section 4) -/

/-- `Abort()` (rule R160). RXQ stays as it is. -/
def State.abort (s : State) : State :=
  { s.txSend resUnexpectedData with
    sessionState := .aborted, sessionType := 0x00#8, pktCount := 0#16, pktIndex := 0#16,
    msgLen := 0#25, frPhase := .none }

/-- Abort, then respond (0x05, acc), where acc is PKT_INDEX just before the abort (rule R162). -/
def State.abortAndRespond (s : State) : State :=
  s.abort.respond resUnexpectedData (s.pktIndex.setWidth 32)

/-! ### Validation (section 6) -/

/-- GameOfLifeConfig check (rule R171). -/
def validGameOfLife (s : List Byte) : Bool := decide (2 ≤ s.length ∧ (s.length - 2) % 2 = 0)

/-- DotMatrixCommand check (rule R172). -/
def validCommand (s : List Byte) : Bool :=
  decide (s.length = 1 ∧ 1 ≤ (commandCode s).toNat ∧ (commandCode s).toNat ≤ 4)

/-- AnimationFrames check, fixed part (rule R173). -/
def frameHasFixedPart (s : List Byte) : Bool := decide (9 ≤ s.length)

/-- AnimationFrames check, bitmap size (rule R174). -/
def frameBitmapFits (s : List Byte) : Bool :=
  decide ((frameRows s).toNat * ceil8 (frameCols s).toNat ≤ (frameBpf s).toNat)

/-- AnimationFrames check, shared geometry (rule R175). -/
def frameSharesGeometry (g : Geometry) (s : List Byte) (k : Half) : Bool :=
  decide (k = 0#16 ∨ frameGeometry s = g)

/-- AnimationFrames check, transmitted size (rule R176), over unbounded integers. -/
def frameIsTransmitted (s : List Byte) : Bool := decide (9 + (frameBpf s).toNat ≤ s.length)

/-- `Valid(t, s, k)` (rule R170), with GEOM0 as an argument. A type outside the three, which no session
has (10_state.md rule R29), validates nothing (log entry 17). -/
def validPacket (g : Geometry) (t : Byte) (s : List Byte) (k : Half) : Bool :=
  if t = typeAnimation then
    frameHasFixedPart s && frameIsTransmitted s && frameBitmapFits s && frameSharesGeometry g s k
  else if t = typeGameOfLife then validGameOfLife s
  else if t = typeCommand then validCommand s
  else false

/-! ### Commit (section 7) -/

/-- `Record(t, s)` (rule R178). -/
def recordOf (t : Byte) (s : List Byte) : List Byte :=
  if t = typeAnimation then s.take (9 + (frameBpf s).toNat) else s

/-- The capacity check (rule R177), without wrap-around. -/
def State.recordFits (s : State) : Bool :=
  decide (s.msgLen.toNat + (recordOf s.sessionType s.pktBuf).length ≤ s.params.msgCap)

/-- Append a record to the message store (rule R180). -/
def State.appendRecord (s : State) (r : List Byte) : State :=
  { s with msg := s.msg.writeBytes s.msgLen.toNat r,
           msgLen := s.msgLen + BitVec.ofNat 25 r.length }

/-- Keep the geometry of frame 0 of an AnimationFrames session (rules R33 and R180). -/
def State.captureGeometry (s : State) : State :=
  if s.sessionType = typeAnimation ∧ s.pktIndex = 0#16 then
    { s with geom0 := frameGeometry s.pktBuf }
  else s

/-- `PKT_INDEX <- PKT_INDEX + 1` (rule R180). -/
def State.countPacket (s : State) : State := { s with pktIndex := s.pktIndex + 1#16 }

/-- `Commit(PKT_BUF)` (rule R180). -/
def State.commit (s : State) : State :=
  ((s.captureGeometry.appendRecord (recordOf s.sessionType s.pktBuf)).txSend resOk).countPacket

/-! ### The packet loop (section 5) -/

/-- The step PREFIX (rules R162 and R163), with what RxRead(4) answered. -/
def prefixStep (pre : List Byte) (s : State) : State :=
  if pre.length < 4 then s.abortAndRespond
  else { s with pktCrc := u16le pre 0, pktLen := u16le pre 2, frPhase := .readPayload }

/-- The step PAYLOAD (rules R162 and R164), with what RxRead(PKT_LEN) answered. -/
def payloadStep (pay : List Byte) (s : State) : State :=
  if pay.length < s.pktLen.toNat then s.abortAndRespond
  else { s with pktBuf := pay, frPhase := .checkPacket }

/-- After a commit: the session is COMPLETE when every declared packet was accepted (rule R181), else
the next packet's prefix is read. -/
def State.afterCommit (s : State) : State :=
  if s.pktIndex = s.pktCount then
    { s with sessionState := .complete, frPhase := .none }.ok (s.pktIndex.setWidth 32)
  else { s with frPhase := .readPrefix }

/-- A checksum mismatch: send 0x03 and wait before the same packet is read again (rule R166). -/
def State.retryPacket (s : State) : State :=
  { s.txSend resChecksumMismatch with frPhase := .retryWait }

/-- The step CHECK (rules R162, R165, R170, R177). -/
def checkStep (s : State) : State :=
  if crc16 s.pktBuf ≠ s.pktCrc then s.retryPacket
  else if !validPacket s.geom0 s.sessionType s.pktBuf s.pktIndex then s.abortAndRespond
  else if !s.recordFits then s.abortAndRespond
  else s.commit.afterCommit

/-- One step of the packet loop, selected by FR_PHASE (rule R162). RETRY_WAIT ends at the block's turn
(rule R154; log entry 8). In PAYLOAD_READ with FR_PHASE = NONE, which rule R34 of 10_state.md excludes,
the block has no step (log entry 15). -/
def loopStep (s : State) : State :=
  match s.frPhase with
  | .none => s
  | .readPrefix => prefixStep (s.rxRead 4).1 (s.rxRead 4).2
  | .readPayload => payloadStep (s.rxRead s.pktLen.toNat).1 (s.rxRead s.pktLen.toNat).2
  | .checkPacket => checkStep s
  | .retryWait => { s with frPhase := .readPrefix }

/-- The block's own step: one step of the packet loop while SESSION_STATE = PAYLOAD_READ, and nothing
otherwise, since every other command is one step (20_memory.md rule R73). -/
def blockStep (s : State) : State :=
  if s.sessionState = .payloadRead then loopStep s else s

/-! ### The commands -/

/-- FR_TRY_HEADER (rules R156 to R159). -/
def execFrTryHeader (s : State) : Host.Outcome State Fault Refusal :=
  .next (if s.holdsMessage then s.respond resInternalError 0#32 else s.tryHeader)

/-- FR_READ_MESSAGE (rules R161 and R183). In HEADER_READ it starts the packet loop and does not
respond yet; the loop's steps are the block's own (log entry 6). -/
def execFrReadMessage (s : State) : Host.Outcome State Fault Refusal :=
  match s.sessionState with
  | .idle => .next ((s.txSend resInternalError).respond resInternalError 0#32)
  | .aborted => .next ((s.txSend resInternalError).respond resInternalError 0#32)
  | .complete => .next (s.ok (s.pktIndex.setWidth 32))
  | .headerRead => .next { s with sessionState := .payloadRead, frPhase := .readPrefix }
  | .payloadRead => .fault .readMessageInPacketLoop

/-- FR_FLUSH (rule R190). -/
def execFrFlush (s : State) : Host.Outcome State Fault Refusal :=
  .next ({ s with sessionState := .idle, sessionType := 0x00#8, pktCount := 0#16,
                  pktIndex := 0#16, msgLen := 0#25 }.ok 0#32)

/-- FR_CURRENT (rule R191). -/
def execFrCurrent (s : State) : Host.Outcome State Fault Refusal := .next (s.ok s.currentView)

/-- FR_STATUS (rule R192). -/
def execFrStatus (s : State) : Host.Outcome State Fault Refusal := .next (s.ok s.statusView)

/-- FR_PKT (rule R193). -/
def execFrPkt (s : State) : Host.Outcome State Fault Refusal := .next (s.ok s.packetsView)

/-- FR_MSG_LEN (rule R194). -/
def execFrMsgLen (s : State) : Host.Outcome State Fault Refusal := .next (s.ok s.msgLenView)

/-- FR_MSG_READ addr (rule R195), with MsgRead of 20_memory.md rule R62. -/
def execFrMsgRead (addr : Nat) (s : State) : Host.Outcome State Fault Refusal :=
  .next (if s.holdsMessage = true ∧ addr < s.msgLen.toNat then
      s.ok ((s.msg.read addr).setWidth 32)
    else s.raise .bounds)

end Sys2Proof.Machine
end

