-- ==== Sys2Proof/Machine/Agents.lean ====
section
/-! DEFINITION. The moves of the agents around the block (00_scope.md rule R8): the transport's two
moves (20_memory.md rule R80), the clock (10_state.md rule R27), reset (70_reset_and_hazards.md rules
R340 to R345), and the command port's acceptance of a word (20_memory.md rule R78). -/

namespace Sys2Proof.Machine

/-- The move at the front of the agenda is taken from it. -/
def State.moveOn (s : State) (rest : List Move) : State := { s with agenda := rest }

/-- The port accepts a command word: BUSY is set, and no response shows until `Respond`
(10_state.md rule R26; 30_encoding.md rule R101). -/
def State.accept (s : State) (rest : List Move) : State :=
  { s with agenda := rest, busy := true, response := none }

/-- The transport appends one byte to RXQ (20_memory.md rule R80). -/
def State.appendRx (s : State) (b : Byte) : State := { s with rxq := s.rxq ++ [b] }

/-- The transport removes the byte at the front of TXQ; with TXQ empty it has no such move and nothing
changes (20_memory.md rule R80; log entry 18). -/
def State.deliverTx (s : State) : State := { s with txq := s.txq.tail }

/-- The clock advances CLK by one and wraps from 2^CLK_BITS - 1 to 0 (10_state.md rule R27). -/
def State.tickClk (s : State) : State := { s with clk := (s.clk + 1) % 2 ^ s.params.clkBits }

/-- Reset: every element takes its reset value. The parameters and CLK are not the block's to reset
(70_reset_and_hazards.md rule R341), and the other agents' coming moves stay (log entry 12). -/
def State.resetBlock (s : State) : State :=
  { State.reset with params := s.params, clk := s.clk, agenda := s.agenda }

/-- Milliseconds from t0 to CLK, `(CLK - t0) mod 2^CLK_BITS` (60_exceptions.md rule R318). -/
def State.elapsedMs (s : State) (t0 : Nat) : Nat :=
  (s.clk + (2 ^ s.params.clkBits - t0 % 2 ^ s.params.clkBits)) % 2 ^ s.params.clkBits

/-- The test that ends the retry delay of a timed implementation (rule R318). The model is untimed and
ends the delay at the block's turn (41_framer.md rule R154; log entry 8), so no step reads this. -/
def State.retryDelayOver (s : State) (t0 : Nat) : Bool :=
  decide (s.params.retryDelayMs ≤ s.elapsedMs t0)

end Sys2Proof.Machine
end

