-- ==== Sys2Proof/Machine/Control.lean ====
section
/-! DEFINITION. The control commands (43_control.md). -/

namespace Sys2Proof.Machine

/-- NOP (rule R280). -/
def execNop (s : State) : Host.Outcome State Fault Refusal := .next (s.ok 0#32)

/-- ERR_READ (rule R281). -/
def execErrRead (s : State) : Host.Outcome State Fault Refusal := .next (s.ok s.errView)

/-- ERR as ERR_CLEAR D8 leaves it: write-1-to-clear (rule R282). -/
def State.errCleared (s : State) (d8 : Byte) : State := s.writeErr (s.readErr &&& ~~~d8)

/-- ERR_CLEAR D8 (rule R282): DATA is the new value. -/
def execErrClear (d8 : Byte) (s : State) : Host.Outcome State Fault Refusal :=
  .next ((s.errCleared d8).ok (s.errCleared d8).errView)

end Sys2Proof.Machine
end

