-- ==== Sys2Proof/Machine/Framebuffer.lean ====
section
/-! DEFINITION. The framebuffer's eleven commands (42_framebuffer.md). Out-of-bounds writes change
nothing; out-of-bounds reads raise Bounds (rule R230). -/

namespace Sys2Proof.Machine

/-- The rule of clear for the cells that a test picks: with P = 1 CUR and PERS become 0, with P = 0 CUR
becomes 0 where PERS is 0 (rules R234 and R235). PREV is never touched. -/
def State.clearCells (s : State) (p : Bool) (pick : Pixel → Bool) : State :=
  if p then
    { s with planeCur := s.planeCur.clearIf pick, planePers := s.planePers.clearIf pick }
  else
    { s with planeCur := s.planeCur.clearIf fun c => pick c && !s.pixel .pers c }

/-- How many cells of the screen are dirty (rule R239). -/
def State.dirtyCount (s : State) : Nat := (screenCells s.params).countP fun c => s.dirty c

/-- The bit of pixel 8·xb + i of a row in the byte-row view: 0 past the right edge (20_memory.md rule
R64). -/
def State.rowBit (s : State) (pl : PlaneId) (xb y i : Nat) : Bool :=
  decide (8 * xb + i < s.params.fbW) && s.pixel pl ⟨8 * xb + i, y⟩

/-- Byte xb of row y of a plane: pixel 8·xb + i is bit 7 - i (20_memory.md rule R64). -/
def State.rowByte (s : State) (pl : PlaneId) (xb y : Nat) : Byte :=
  BitVec.ofBool (s.rowBit pl xb y 0) ++ BitVec.ofBool (s.rowBit pl xb y 1) ++
  BitVec.ofBool (s.rowBit pl xb y 2) ++ BitVec.ofBool (s.rowBit pl xb y 3) ++
  BitVec.ofBool (s.rowBit pl xb y 4) ++ BitVec.ofBool (s.rowBit pl xb y 5) ++
  BitVec.ofBool (s.rowBit pl xb y 6) ++ BitVec.ofBool (s.rowBit pl xb y 7)

/-- FB_SET plane, x, y (rule R231). -/
def execFbSet (pl : PlaneId) (x y : Int) (s : State) : Host.Outcome State Fault Refusal :=
  .next ((if InB s.params x y then s.writePixel pl (pixelAt x y) true else s).ok 0#32)

/-- FB_UNSET plane, x, y (rule R232): unsetting CUR is suppressed where PERS is set. -/
def execFbUnset (pl : PlaneId) (x y : Int) (s : State) : Host.Outcome State Fault Refusal :=
  .next ((if InB s.params x y then
      if pl = .cur ∧ s.pixel .pers (pixelAt x y) = true then s
      else s.writePixel pl (pixelAt x y) false
    else s).ok 0#32)

/-- FB_IS_SET plane, x, y (rule R233). -/
def execFbIsSet (pl : PlaneId) (x y : Int) (s : State) : Host.Outcome State Fault Refusal :=
  .next (if InB s.params x y then
      s.ok ((BitVec.ofBool (s.pixel pl (pixelAt x y))).setWidth 32)
    else s.raise .bounds)

/-- FB_CLEAR p (rule R234): the whole screen. -/
def execFbClear (p : Bool) (s : State) : Host.Outcome State Fault Refusal :=
  .next ((s.clearCells p (onScreen s.params)).ok 0#32)

/-- FB_CLEAR_REGION p, x, y, w, h (rule R235): the rectangle, clipped to the screen. -/
def execFbClearRegion (p : Bool) (x y : Int) (wd ht : Nat) (s : State) :
    Host.Outcome State Fault Refusal :=
  .next ((s.clearCells p (inRegion s.params x y wd ht)).ok 0#32)

/-- FB_ADVANCE x, y (rule R236). -/
def execFbAdvance (x y : Int) (s : State) : Host.Outcome State Fault Refusal :=
  .next ((if InB s.params x y then
      s.writePixel .prev (pixelAt x y) (s.pixel .cur (pixelAt x y))
    else s).ok 0#32)

/-- FB_ADVANCE_ALL (rule R237). -/
def execFbAdvanceAll (s : State) : Host.Outcome State Fault Refusal :=
  .next ({ s with planePrev := s.planeCur }.ok 0#32)

/-- FB_IS_DIRTY x, y (rule R238). -/
def execFbIsDirty (x y : Int) (s : State) : Host.Outcome State Fault Refusal :=
  .next (if InB s.params x y then
      s.ok ((BitVec.ofBool (s.dirty (pixelAt x y))).setWidth 32)
    else s.raise .bounds)

/-- FB_DIRTY_COUNT (rule R239). -/
def execFbDirtyCount (s : State) : Host.Outcome State Fault Refusal :=
  .next (s.ok (BitVec.ofNat 32 s.dirtyCount))

/-- FB_READ_ROW8 plane, xb, y (rule R240). -/
def execFbReadRow8 (pl : PlaneId) (xb y : Int) (s : State) : Host.Outcome State Fault Refusal :=
  .next (if InRowView s.params xb y then
      s.ok ((s.rowByte pl xb.toNat y.toNat).setWidth 32)
    else s.raise .bounds)

/-- FB_GEOMETRY (rule R241). -/
def execFbGeometry (s : State) : Host.Outcome State Fault Refusal := .next (s.ok s.geometryView)

end Sys2Proof.Machine
end

