-- ==== Sys2Proof/Machine/Dispatch.lean ====
section
/-! DEFINITION. One arm per command: the meaning of each (30_encoding.md rule R99). -/

namespace Sys2Proof.Machine

def exec (i : Instr) (s : State) : Host.Outcome State Fault Refusal :=
  match i with
  | .nop => Sys2Proof.Machine.execNop s
  | .crcInit => Sys2Proof.Machine.execCrcInit s
  | .crcUpdate d8 => Sys2Proof.Machine.execCrcUpdate d8 s
  | .crcRead => Sys2Proof.Machine.execCrcRead s
  | .frTryHeader => Sys2Proof.Machine.execFrTryHeader s
  | .frReadMessage => Sys2Proof.Machine.execFrReadMessage s
  | .frFlush => Sys2Proof.Machine.execFrFlush s
  | .frCurrent => Sys2Proof.Machine.execFrCurrent s
  | .frStatus => Sys2Proof.Machine.execFrStatus s
  | .frPkt => Sys2Proof.Machine.execFrPkt s
  | .frMsgLen => Sys2Proof.Machine.execFrMsgLen s
  | .frMsgRead addr => Sys2Proof.Machine.execFrMsgRead addr s
  | .fbSet pl x y => Sys2Proof.Machine.execFbSet pl x y s
  | .fbUnset pl x y => Sys2Proof.Machine.execFbUnset pl x y s
  | .fbIsSet pl x y => Sys2Proof.Machine.execFbIsSet pl x y s
  | .fbClear p => Sys2Proof.Machine.execFbClear p s
  | .fbClearRegion p x y wd ht => Sys2Proof.Machine.execFbClearRegion p x y wd ht s
  | .fbAdvance x y => Sys2Proof.Machine.execFbAdvance x y s
  | .fbAdvanceAll => Sys2Proof.Machine.execFbAdvanceAll s
  | .fbIsDirty x y => Sys2Proof.Machine.execFbIsDirty x y s
  | .fbDirtyCount => Sys2Proof.Machine.execFbDirtyCount s
  | .fbReadRow8 pl xb y => Sys2Proof.Machine.execFbReadRow8 pl xb y s
  | .fbGeometry => Sys2Proof.Machine.execFbGeometry s
  | .errRead => Sys2Proof.Machine.execErrRead s
  | .errClear d8 => Sys2Proof.Machine.execErrClear d8 s

end Sys2Proof.Machine
end

