-- ==== Sys2Proof/Machine/Step.lean ====
section
/-! DEFINITION. One step of the machine: the move at the front of the agenda. The port takes a command
word only when BUSY is false (20_memory.md rule R78): while the packet loop runs, a presented word waits
and the block goes on (log entry 5). With nothing on the agenda the block goes on by itself (log
entry 2). -/

namespace Sys2Proof.Machine

/-- Decode and run one accepted word; an illegal one raises Illegal and nothing else runs
(30_encoding.md rule R113; 60_exceptions.md rule R303). -/
def runWord (w : Command) (s : State) : Host.Outcome State Fault Refusal :=
  match decode w with
  | .instr i => Sys2Proof.Machine.exec i s
  | .illegal _ => .next (s.raise .illegal)

/-- One step. -/
def step (s : State) : Host.Outcome State Fault Refusal :=
  match s.agenda with
  | [] => .next (blockStep s)
  | .command w :: rest => if s.busy then .next (blockStep s) else runWord w (s.accept rest)
  | .receive b :: rest => .next ((s.moveOn rest).appendRx b)
  | .deliver :: rest => .next (s.moveOn rest).deliverTx
  | .tick :: rest => .next (s.moveOn rest).tickClk
  | .block :: rest => .next (blockStep (s.moveOn rest))
  | .reset :: rest => .next (s.moveOn rest).resetBlock

/-- The state in which the host presents the word of an opcode-table row as the very next move and the
port is free to take it (log entry 4). -/
def State.withFetchWord (s : State) (nbits w : Nat) : State :=
  { s with agenda := .command (tableWord nbits w) :: s.agenda, busy := false }

end Sys2Proof.Machine
end

