-- ==== Sys2Proof/Safety.lean ====
section
/-! DEFINITION. What claims are stated in: the invariant of the machine (10_state.md rules R24 to R40),
and runs in which the environment goes on feeding the agenda. -/

namespace Sys2Proof.Machine

/-- The result bytes that TxSend sends (30_encoding.md rule R105). -/
def isResultByte (b : Byte) : Bool := b == 0x01#8 || b == 0x02#8 || b == 0x03#8 || b == 0x05#8

/-- The response codes that the block produces (30_encoding.md rule R102). -/
def isResponseCode (b : Byte) : Bool :=
  b == 0x00#8 || b == 0x01#8 || b == 0x02#8 || b == 0x05#8 || b == 0x80#8 || b == 0x81#8

/-- The type identifiers that are recognised (30_encoding.md rule R106). -/
def isTypeId (b : Byte) : Bool := b == 0x10#8 || b == 0x11#8 || b == 0x12#8

/-- What holds between any two steps. The clauses are those of 10_state.md rules R24 to R40. -/
structure State.Inv (s : State) : Prop where
  /-- The parameters are in the ranges of 00_scope.md rule R9. -/
  paramsLegal : s.params.Legal
  /-- ERR bits 7:2 are 0 (rule R24). -/
  errHardwired : s.readErr = s.err
  /-- LAST_RESULT takes only 0x00 and the result bytes (rule R25). -/
  lastResultLegal : s.lastResult = 0x00#8 ∨ isResultByte s.lastResult = true
  /-- CLK has CLK_BITS bits (rule R27). -/
  clkInRange : s.clk < 2 ^ s.params.clkBits
  /-- Between steps BUSY holds exactly in the packet loop (rules R26 and R39). -/
  busyIff : s.busy = true ↔ s.sessionState = .payloadRead
  /-- FR_PHASE is NONE exactly outside the packet loop (rule R34). -/
  phaseIff : s.frPhase = .none ↔ s.sessionState ≠ .payloadRead
  /-- With no message held, type, counters and length are 0 (rule R38). -/
  notHeld : s.sessionState = .idle ∨ s.sessionState = .aborted →
    s.sessionType = 0x00#8 ∧ s.pktCount = 0#16 ∧ s.pktIndex = 0#16 ∧ s.msgLen = 0#25
  /-- With a message held, the type is recognised and at least one packet is declared, exactly one for
  the single-packet types (rules R29, R30 and R38). -/
  held : s.sessionState = .headerRead ∨ s.sessionState = .payloadRead ∨
      s.sessionState = .complete →
    isTypeId s.sessionType = true ∧ 1 ≤ s.pktCount.toNat ∧
      (s.sessionType ≠ 0x10#8 → s.pktCount = 1#16)
  /-- HEADER_READ has accepted no packet (rule R38). -/
  headerFresh : s.sessionState = .headerRead → s.pktIndex = 0#16 ∧ s.msgLen = 0#25
  /-- The packet loop has a packet left to accept (rule R38). -/
  loopUnfinished : s.sessionState = .payloadRead → s.pktIndex.toNat < s.pktCount.toNat
  /-- COMPLETE has accepted every declared packet (rule R38). -/
  completeFull : s.sessionState = .complete → s.pktIndex = s.pktCount
  /-- MSG_LEN does not exceed MSG_CAP (rule R32). -/
  msgLenFits : s.msgLen.toNat ≤ s.params.msgCap
  /-- The message store is in its canonical form. -/
  msgCanonical : s.msg.wf = true
  /-- The message store holds MSG_CAP bytes (rule R32). -/
  msgInStore : ∀ cell ∈ s.msg, cell.1 < s.params.msgCap
  /-- PKT_BUF holds at most 65535 bytes (rule R35). -/
  bufFits : s.pktBuf.length ≤ 65535
  /-- At CHECK the whole declared payload is in PKT_BUF (rule R164 of 41_framer.md). -/
  checkHasPayload : s.frPhase = .checkPacket → s.pktBuf.length = s.pktLen.toNat
  /-- Only result bytes are on TXQ (30_encoding.md rule R105). -/
  txqLegal : ∀ b ∈ s.txq, isResultByte b = true
  /-- The planes are in their canonical form. -/
  planesCanonical : s.planeCur.wf = true ∧ s.planePrev.wf = true ∧ s.planePers.wf = true
  /-- Each plane has FB_W x FB_H bits (rule R40). -/
  planesOnScreen : ∀ c ∈ s.planeCur ++ s.planePrev ++ s.planePers, onScreen s.params c = true
  /-- No response shows while a command runs (30_encoding.md rule R101). -/
  noResponseWhileBusy : s.busy = true → s.response = none
  /-- A response has one of the codes of 30_encoding.md rule R102. -/
  responseLegal : s.response.all (fun r => isResponseCode r.res) = true

/-- A run of n steps in which the environment adds `feed k` to the end of the agenda before step k. The
feed is an argument and no part of the state: with it, a run that never ends is a run for every n
(41_framer.md rule R196; log entry 21). -/
def feedRun (feed : Nat → List Move) : Nat → State → Host.Outcome State Fault Refusal
  | 0, s => .next s
  | n + 1, s =>
    match feedRun feed n s with
    | .next t => step { t with agenda := t.agenda ++ feed n }
    | .fault r => .fault r
    | .refused r => .refused r

end Sys2Proof.Machine
end

