-- ==== Sys2Proof/Certificates/Slice0/Obligations.lean ====
section
/-! DEFINITION. The statements for the provers, one definition each; OBLIGATIONS.json lists them with the
rules of spec/ they formalise. A state right after the port accepted a word has BUSY set and no response
(`State.accept`); a statement about `exec` holds for every state, whatever those two fields are. -/

open Sys2Proof Sys2Proof.Machine

/-! ### Encoding (30_encoding.md) -/

/-- Every command whose operands fit their fields decodes from its own word, with every operand. -/
def Obligations.DecodeOfEncodeIsTheCommand : Prop :=
  ∀ i : Instr, i.wellFormed = true → decode (encode i) = .instr i

/-- A word that decodes to a command is that command's one encoding, and the operands fit. -/
def Obligations.LegalWordIsItsCommandsEncoding : Prop :=
  ∀ (w : Command) (i : Instr), decode w = .instr i → encode i = w ∧ i.wellFormed = true

/-- 30_encoding.md rule R100 and 60_exceptions.md rule R303: the illegal words, the unassigned opcodes,
and exactly what an illegal word does. -/
def Obligations.IllegalWordsAndTheirEffect : Prop :=
  (∀ w : Command, (∃ why, decode w = .illegal why) ↔
    (formatOf (fieldOp w) = none ∨
      ∃ f, formatOf (fieldOp w) = some f ∧
        (w &&& f.mask ≠ (fieldOp w).setWidth 64 ∨ (f = .P ∧ fieldPl w = 3#2)))) ∧
  (∀ op : Byte, formatOf op = none ↔
    ((0x04 ≤ op.toNat ∧ op.toNat ≤ 0x0F) ∨ (0x18 ≤ op.toNat ∧ op.toNat ≤ 0x1F) ∨
      (0x2B ≤ op.toNat ∧ op.toNat ≤ 0x2F) ∨ (0x32 ≤ op.toNat ∧ op.toNat ≤ 0xFF))) ∧
  decode 0#64 = .instr .nop ∧
  (∀ (s : State) (w : Command) (rest : List Move) (why : IllegalWord),
    s.agenda = .command w :: rest → s.busy = false → decode w = .illegal why →
    step s = .next { s with
      agenda := rest, err := (s.err ||| 0x01#8) &&& 0x03#8,
      response := some ⟨0x80#8, 0#32⟩, busy := false })

/-- The three words of 30_encoding.md rule R114. -/
def Obligations.WorkedEncodings : Prop :=
  (encode (.fbSet .cur 3 4) = 0x0000000040030020#64 ∧
    decode 0x0000000040030020#64 = .instr (.fbSet .cur 3 4)) ∧
  (encode (.fbUnset .cur (-1) 0) = 0x000000000FFF0021#64 ∧
    decode 0x000000000FFF0021#64 = .instr (.fbUnset .cur (-1) 0)) ∧
  (encode (.fbClearRegion true (-2) (-3) 5 6) = 0x006005FFDFFE0424#64 ∧
    decode 0x006005FFDFFE0424#64 = .instr (.fbClearRegion true (-2) (-3) 5 6))

/-- 20_memory.md rule R70: a word carried as 8 bytes and a response carried as 5, least significant
byte first, and the decoder reads the word back from the bytes. -/
def Obligations.WordsAndResponsesAsBytes : Prop :=
  (∀ w : Command, (commandBytes w).length = 8 ∧
    ∀ k, k < 8 → (commandBytes w).getD k 0#8 = w.extractLsb' (8 * k) 8) ∧
  (∀ (w : Command) (rest : List Byte),
    decodeBytes (commandBytes w ++ rest) = .word (decode w) rest) ∧
  (∀ r : Response, (responseBytes r).length = 5 ∧ (responseBytes r).getD 0 0#8 = r.res ∧
    ∀ k, k < 4 → (responseBytes r).getD (k + 1) 0#8 = r.data.extractLsb' (8 * k) 8)

/-! ### The port and the other agents -/

/-- A word that decodes to a well-formed command, presented while BUSY is false, is run by the very next
step: the move leaves the agenda, BUSY is set, no response shows, and `exec` runs. -/
def Obligations.StepRunsTheDecodedCommand : Prop :=
  ∀ (s : State) (w : Command) (rest : List Move) (i : Instr),
    s.agenda = .command w :: rest → s.busy = false → decode w = .instr i → i.wellFormed = true →
    step s = exec i { s with agenda := rest, busy := true, response := none }

/-- While BUSY holds the port takes no word: it stays presented, and the block takes its own step. -/
def Obligations.PresentedWordWaitsWhileBusy : Prop :=
  ∀ (s : State) (w : Command) (rest : List Move),
    s.agenda = .command w :: rest → s.busy = true →
    step s = .next (blockStep s) ∧ (blockStep s).agenda = .command w :: rest

/-- 20_memory.md rule R80: the transport's two moves, possible in every state, change nothing but the
back of RXQ and the front of TXQ. -/
def Obligations.TransportMovesTouchOnlyTheQueues : Prop :=
  (∀ (s : State) (b : Byte) (rest : List Move), s.agenda = .receive b :: rest →
    step s = .next { s with agenda := rest, rxq := s.rxq ++ [b] }) ∧
  (∀ (s : State) (b : Byte) (queue : List Byte) (rest : List Move),
    s.agenda = .deliver :: rest → s.txq = b :: queue →
    step s = .next { s with agenda := rest, txq := queue })

/-- n ticks of the clock: CLK wraps at 2^CLK_BITS, and the elapsed time from where they began is n modulo
2^CLK_BITS, so that a wrap neither shortens nor lengthens it (60_exceptions.md rule R318). That one tick adds
exactly one millisecond, on which the value after n ticks rests, is the model's reading (log entry 22). -/
def Obligations.ElapsedTimeToleratesClockWrap : Prop :=
  ∀ (n : Nat) (s : State) (rest : List Move),
    s.agenda = List.replicate n .tick ++ rest → s.clk < 2 ^ s.params.clkBits →
    Host.Core.run Sys2Proof.core n s =
      .next { s with agenda := rest, clk := (s.clk + n) % 2 ^ s.params.clkBits } ∧
    State.elapsedMs { s with agenda := rest, clk := (s.clk + n) % 2 ^ s.params.clkBits } s.clk =
      n % 2 ^ s.params.clkBits

/-- Reset, asserted in any state, also inside a long command: the values of
70_reset_and_hazards.md rule R341, both queues empty, nothing sent, no response for a command that was
in progress (R342, R345), the parameters kept. That no response shows either when no command was in progress
is the model's choice (log entry 3). That CLK and the agents' coming moves are kept, and what the elements
with no stated value hold, is the model's choice too (log entries 9 to 12) and not claimed. -/
def Obligations.ResetGivesTheResetValues : Prop :=
  ∀ (s : State) (rest : List Move), s.agenda = .reset :: rest →
    ∃ t, step s = .next t ∧ t.params = s.params ∧
      t.crcReg = 0xFFFF#16 ∧ t.err = 0x00#8 ∧ t.lastResult = 0x00#8 ∧ t.busy = false ∧
      t.sessionState = .idle ∧ t.sessionType = 0x00#8 ∧ t.pktCount = 0#16 ∧ t.pktIndex = 0#16 ∧
      t.msgLen = 0#25 ∧ t.frPhase = .none ∧ t.rxq = [] ∧ t.txq = [] ∧ t.response = none ∧
      ∀ pl c, t.pixel pl c = false

/-! ### Control (43_control.md) -/

/-- 43_control.md rule R280: NOP only responds (0x01, 0); its one legal word is the all-zero word, and
0x0000000000000100 is answered (0x80, 0). -/
def Obligations.NopOnlyResponds : Prop :=
  (∀ s : State, exec .nop s = .next { s with response := some ⟨0x01#8, 0#32⟩, busy := false }) ∧
  (∀ w : Command, fieldOp w = 0x00#8 →
    (decode w = .instr .nop ↔ w = 0#64) ∧
    (w ≠ 0#64 → decode w = .illegal .nonzeroReservedBit)) ∧
  ∀ (s : State) (rest : List Move),
    s.agenda = .command 0x0000000000000100#64 :: rest → s.busy = false →
    ∃ t, step s = .next t ∧ t.response = some ⟨0x80#8, 0#32⟩

/-- 43_control.md rule R281: ERR_READ answers ERR and changes nothing; bits 31:2 of DATA are 0, and right
after reset it answers 0. -/
def Obligations.ErrReadAnswersErr : Prop :=
  (∀ w : Command, decode w = .instr .errRead ↔ w = 0x30#64) ∧
  (∀ s : State, exec .errRead s = .next { s with
    response := some ⟨0x01#8,
      (if s.err.getLsbD 0 then 1#32 else 0#32) ||| (if s.err.getLsbD 1 then 2#32 else 0#32)⟩,
    busy := false }) ∧
  (exec .errRead State.reset =
    .next { State.reset with response := some ⟨0x01#8, 0#32⟩, busy := false })

/-- ERR_CLEAR clears exactly the bits of ERR that D8 selects, answers the new value, and does nothing more
when applied twice; bits 7:2 of D8 have no effect. -/
def Obligations.ErrClearIsWriteOneToClear : Prop :=
  (∀ (d8 : Byte) (s : State), exec (.errClear d8) s =
    .next { s with
      err := s.err &&& ~~~d8 &&& 0x03#8,
      response := some ⟨0x01#8, (s.err &&& ~~~d8 &&& 0x03#8).setWidth 32⟩, busy := false }) ∧
  (∀ (d8 : Byte) (s t : State), exec (.errClear d8) s = .next t → exec (.errClear d8) t = .next t) ∧
  (∀ (d8 : Byte) (s : State), exec (.errClear d8) s = exec (.errClear (d8 &&& 0x03#8)) s)

/-! ### The CRC unit (40_crc.md) -/

/-- The three CRC commands set, step and read CRC_REG, answer its new value and change nothing else. -/
def Obligations.CrcCommandsActOnCrcReg : Prop :=
  (∀ s : State, exec .crcInit s =
    .next { s with crcReg := 0xFFFF#16, response := some ⟨0x01#8, 0x0000FFFF#32⟩, busy := false }) ∧
  (∀ (d8 : Byte) (s : State), exec (.crcUpdate d8) s =
    .next { s with
      crcReg := crcStep s.crcReg d8,
      response := some ⟨0x01#8, (crcStep s.crcReg d8).setWidth 32⟩, busy := false }) ∧
  (∀ s : State, exec .crcRead s =
    .next { s with response := some ⟨0x01#8, s.crcReg.setWidth 32⟩, busy := false })

/-- 40_crc.md rule R137: CrcStep is linear over XOR, and so are checksums of equally long sequences, the
seed cancelling. -/
def Obligations.CrcIsLinear : Prop :=
  (∀ (c1 c2 : Half) (b1 b2 : Byte),
    crcStep (c1 ^^^ c2) (b1 ^^^ b2) = crcStep c1 b1 ^^^ crcStep c2 b2) ∧
  (∀ s t : List Byte, s.length = t.length →
    crc16 s ^^^ crc16 t = crcFold 0x0000#16 (List.zipWith (· ^^^ ·) s t))

/-- CrcStep is the shift-and-conditional-XOR loop of 40_crc.md rule R131, written over numbers. -/
def Obligations.CrcStepIsTheBitLoop : Prop :=
  ∀ (c : Half) (b : Byte),
    (crcStep c b).toNat =
      Nat.repeat (fun r => if r.testBit 15 then (2 * r % 65536) ^^^ 0x1021 else 2 * r % 65536) 8
        (c.toNat ^^^ (b.toNat * 256))

/-- 40_crc.md rule R138: corrupting any single byte changes the checksum. -/
def Obligations.SingleByteCorruptionChangesCrc : Prop :=
  ∀ (s : List Byte) (i : Nat) (b : Byte), i < s.length → s.getD i 0#8 ≠ b →
    crc16 (s.set i b) ≠ crc16 s

/-- CRC_INIT, one CRC_UPDATE a byte, CRC_READ: presented one after the other they leave the checksum of the
bytes in CRC_REG and answer it, and change nothing else (the CRC_BLOCK of 30_encoding.md rule R112). -/
def Obligations.CrcCommandStreamComputesCrc16 : Prop :=
  ∀ (bytes : List Byte) (s : State) (rest : List Move), s.busy = false →
    s.agenda = .command (encode .crcInit) ::
      (bytes.map fun b => Move.command (encode (.crcUpdate b))) ++
      .command (encode .crcRead) :: rest →
    Host.Core.run Sys2Proof.core (bytes.length + 2) s = .next { s with
      agenda := rest, crcReg := crc16 bytes,
      response := some ⟨0x01#8, (crc16 bytes).setWidth 32⟩ }

/-- 40_crc.md rule R140: no framer command and no step of the packet loop changes CRC_REG, and the CRC
commands change no framer state. -/
def Obligations.CrcUnitAndFramerAreIndependent : Prop :=
  (∀ (s t : State) (i : Instr),
    i ∈ [Instr.frTryHeader, .frReadMessage, .frFlush, .frCurrent, .frStatus, .frPkt, .frMsgLen] ∨
      (∃ addr, i = .frMsgRead addr) →
    exec i s = .next t → t.crcReg = s.crcReg) ∧
  (∀ s : State, (blockStep s).crcReg = s.crcReg) ∧
  (∀ (s : State) (c : Half) (i : Instr),
    i ∈ [Instr.frTryHeader, .frReadMessage, .frFlush, .frCurrent, .frStatus, .frPkt, .frMsgLen] ∨
      (∃ addr, i = .frMsgRead addr) →
    ∀ t, exec i s = .next t → exec i { s with crcReg := c } = .next { t with crcReg := c }) ∧
  (∀ (s : State) (c : Half), blockStep { s with crcReg := c } = { blockStep s with crcReg := c }) ∧
  (∀ i : Instr, i = .crcInit ∨ i = .crcRead ∨ (∃ d8, i = .crcUpdate d8) →
    ∃ (f : Half → Half) (d : Half → Data), ∀ s : State, exec i s = .next { s with
      crcReg := f s.crcReg, response := some ⟨0x01#8, d s.crcReg⟩, busy := false })

/-! ### The framer: header (41_framer.md section 3) -/

/-- 60_exceptions.md rule R306 with 41_framer.md rule R157: the two cases of InternalError.
FR_TRY_HEADER while a message is held answers it and changes nothing; FR_READ_MESSAGE with no session
sends 0x02, answers it and changes nothing else. -/
def Obligations.InternalErrorCases : Prop :=
  (∀ s : State, s.sessionState = .headerRead ∨ s.sessionState = .complete →
    exec .frTryHeader s = .next { s with response := some ⟨0x02#8, 0#32⟩, busy := false }) ∧
  (∀ s : State, s.sessionState = .idle ∨ s.sessionState = .aborted →
    exec .frReadMessage s = .next { s with
      txq := s.txq ++ [0x02#8], lastResult := 0x02#8,
      response := some ⟨0x02#8, 0#32⟩, busy := false })

/-- With no message held and fewer bytes in RXQ than the header of the type at its front takes,
FR_TRY_HEADER answers NONE and changes nothing. -/
def Obligations.TryHeaderWaitsForTheWholeHeader : Prop :=
  ∀ s : State, s.sessionState = .idle ∨ s.sessionState = .aborted →
    s.rxq = [] ∨ (∃ rest, s.rxq = 0x10#8 :: rest ∧ s.rxq.length < 3) →
    exec .frTryHeader s = .next { s with response := some ⟨0x00#8, 0#32⟩, busy := false }

/-- 41_framer.md rules R158 and R159: the two headers that are rejected. An AnimationFrames header with
no packets is consumed whole; of an unrecognised type one byte is consumed. Both send 0x05, and no
session starts. -/
def Obligations.RejectedHeaders : Prop :=
  (∀ (s : State) (rest : List Byte), s.sessionState = .idle ∨ s.sessionState = .aborted →
    s.rxq = [0x10#8, 0x00#8, 0x00#8] ++ rest →
    exec .frTryHeader s = .next { s with
      rxq := rest, txq := s.txq ++ [0x05#8], lastResult := 0x05#8, sessionState := .idle,
      response := some ⟨0x05#8, 0#32⟩, busy := false }) ∧
  (∀ (s : State) (t : Byte) (rest : List Byte),
    s.sessionState = .idle ∨ s.sessionState = .aborted →
    s.rxq = t :: rest → t ≠ 0x10#8 → t ≠ 0x11#8 → t ≠ 0x12#8 →
    exec .frTryHeader s = .next { s with
      rxq := rest, txq := s.txq ++ [0x05#8], lastResult := 0x05#8, sessionState := .idle,
      response := some ⟨0x05#8, 0#32⟩, busy := false })

/-- A header that the sender transmits (30_encoding.md rule R103) starts a session of its type with its
packet count: exactly the header's bytes are consumed and 0x01 is sent. -/
def Obligations.TryHeaderOpensTheSession : Prop :=
  (∀ (s : State) (n : Half) (rest : List Byte),
    s.sessionState = .idle ∨ s.sessionState = .aborted → n ≠ 0#16 →
    s.rxq = headerBytes (.animation n) ++ rest →
    exec .frTryHeader s = .next { s with
      rxq := rest, txq := s.txq ++ [0x01#8], lastResult := 0x01#8, sessionState := .headerRead,
      sessionType := 0x10#8, pktCount := n, pktIndex := 0#16, msgLen := 0#25,
      response := some ⟨0x01#8, 1#32⟩, busy := false }) ∧
  (∀ (s : State) (t : Byte) (rest : List Byte),
    s.sessionState = .idle ∨ s.sessionState = .aborted → t = 0x11#8 ∨ t = 0x12#8 →
    s.rxq = t :: rest →
    exec .frTryHeader s = .next { s with
      rxq := rest, txq := s.txq ++ [0x01#8], lastResult := 0x01#8, sessionState := .headerRead,
      sessionType := t, pktCount := 1#16, pktIndex := 0#16, msgLen := 0#25,
      response := some ⟨0x01#8, 1#32⟩, busy := false })

/-! ### The framer: FR_READ_MESSAGE and the packet loop (sections 4 to 7) -/

/-- In HEADER_READ, FR_READ_MESSAGE starts the packet loop and does not respond yet: that the start is a
step of its own is read from rule R162 (log entry 6). In PAYLOAD_READ, where the port takes no command,
it stops with a fault of its own name: the model's choice (log entry 14). -/
def Obligations.ReadMessageStartsThePacketLoop : Prop :=
  (∀ s : State, s.sessionState = .headerRead →
    exec .frReadMessage s =
      .next { s with sessionState := .payloadRead, frPhase := .readPrefix }) ∧
  (∀ s : State, s.sessionState = .payloadRead →
    exec .frReadMessage s = .fault .readMessageInPacketLoop)

/-- 41_framer.md rule R183. -/
def Obligations.ReadMessageInCompleteHasNoEffect : Prop :=
  ∀ s : State, s.sessionState = .complete →
    exec .frReadMessage s =
      .next { s with response := some ⟨0x01#8, s.pktIndex.setWidth 32⟩, busy := false }

/-- 41_framer.md rules R163 and R164 at the block's turn. Four bytes of RXQ are the prefix, checksum and
length least significant byte first; then PKT_LEN bytes are the payload, at once when PKT_LEN is 0. With
fewer bytes the read is short: they are consumed and the session aborts with exactly the effects of
Abort. That a short read happens at that turn is read from rule R152 (log entry 7). -/
def Obligations.PacketReadOrAbort : Prop :=
  (∀ (s : State) (c0 c1 l0 l1 : Byte) (rest : List Byte),
    s.sessionState = .payloadRead → s.frPhase = .readPrefix →
    s.rxq = [c0, c1, l0, l1] ++ rest →
    blockStep s = { s with
      rxq := rest, pktCrc := c1 ++ c0, pktLen := l1 ++ l0, frPhase := .readPayload }) ∧
  (∀ (s : State) (pay rest : List Byte),
    s.sessionState = .payloadRead → s.frPhase = .readPayload →
    s.rxq = pay ++ rest → pay.length = s.pktLen.toNat →
    blockStep s = { s with rxq := rest, pktBuf := pay, frPhase := .checkPacket }) ∧
  (∀ s : State, s.sessionState = .payloadRead →
    (s.frPhase = .readPrefix ∧ s.rxq.length < 4) ∨
      (s.frPhase = .readPayload ∧ s.rxq.length < s.pktLen.toNat) →
    blockStep s = { s with
      rxq := [], txq := s.txq ++ [0x05#8], lastResult := 0x05#8, sessionState := .aborted,
      sessionType := 0x00#8, pktCount := 0#16, pktIndex := 0#16, msgLen := 0#25, frPhase := .none,
      response := some ⟨0x05#8, s.pktIndex.setWidth 32⟩, busy := false })

/-- 41_framer.md rules R165 and R166: a packet whose checksum differs is answered 0x03 and nothing of the
session changes; after the delay the next prefix is read from RXQ. -/
def Obligations.MismatchIsRetried : Prop :=
  (∀ s : State, s.sessionState = .payloadRead → s.frPhase = .checkPacket →
    crc16 s.pktBuf ≠ s.pktCrc →
    blockStep s = { s with
      txq := s.txq ++ [0x03#8], lastResult := 0x03#8, frPhase := .retryWait }) ∧
  (∀ s : State, s.sessionState = .payloadRead → s.frPhase = .retryWait →
    blockStep s = { s with frPhase := .readPrefix })

/-- 41_framer.md rules R170 and R177: a packet whose checksum matches but which fails validation, or whose
record would exceed MSG_CAP, aborts the session. The record is that of rule R178: of type 0x10 the first
9 + bytes_per_frame bytes of the payload, of types 0x11 and 0x12 the whole payload. RXQ stays as it is. -/
def Obligations.InvalidOrOverflowingPacketAborts : Prop :=
  ∀ (s : State) (record : List Byte),
    (s.sessionType = 0x10#8 → record =
      s.pktBuf.take (9 + ((s.pktBuf.getD 2 0#8).toNat + 256 * (s.pktBuf.getD 3 0#8).toNat))) →
    (s.sessionType = 0x11#8 ∨ s.sessionType = 0x12#8 → record = s.pktBuf) →
    s.sessionState = .payloadRead → s.frPhase = .checkPacket →
    crc16 s.pktBuf = s.pktCrc →
    validPacket s.geom0 s.sessionType s.pktBuf s.pktIndex = false ∨
      s.params.msgCap < s.msgLen.toNat + record.length →
    blockStep s = { s with
      txq := s.txq ++ [0x05#8], lastResult := 0x05#8, sessionState := .aborted,
      sessionType := 0x00#8, pktCount := 0#16, pktIndex := 0#16, msgLen := 0#25, frPhase := .none,
      response := some ⟨0x05#8, s.pktIndex.setWidth 32⟩, busy := false }

/-- 41_framer.md rules R171 to R176, check by check, over unbounded integers. -/
def Obligations.ValidPacketIsTheConjunctionOfTheChecks : Prop :=
  ∀ (g : Geometry) (s : List Byte) (k : Half),
    (validPacket g 0x11#8 s k = true ↔ 2 ≤ s.length ∧ (s.length - 2) % 2 = 0) ∧
    (validPacket g 0x12#8 s k = true ↔
      s.length = 1 ∧ 1 ≤ (s.getD 0 0#8).toNat ∧ (s.getD 0 0#8).toNat ≤ 4) ∧
    (validPacket g 0x10#8 s k = true ↔
      9 ≤ s.length ∧
      9 + ((s.getD 2 0#8).toNat + 256 * (s.getD 3 0#8).toNat) ≤ s.length ∧
      (s.getD 4 0#8).toNat * (((s.getD 5 0#8).toNat + 7) / 8) ≤
        (s.getD 2 0#8).toNat + 256 * (s.getD 3 0#8).toNat ∧
      (k = 0#16 ∨
        (g.bpf.toNat = (s.getD 2 0#8).toNat + 256 * (s.getD 3 0#8).toNat ∧
          g.rows = s.getD 4 0#8 ∧ g.cols = s.getD 5 0#8)))

/-- 41_framer.md rules R178, R180 and R181. The record of an AnimationFrames payload is its first
9 + bytes_per_frame bytes, the extra bytes dropped; that of a single-packet payload is the whole payload. An
accepted packet's record, and nothing else, is stored after the bytes that were there, GEOM0 takes the
geometry of frame 0 of an AnimationFrames session, 0x01 is sent, PKT_INDEX goes up by one; the session
completes when PKT_INDEX reaches PKT_COUNT, and else the next prefix is read. -/
def Obligations.AcceptedPacketIsCommitted : Prop :=
  (∀ payload : List Byte, 9 ≤ payload.length → recordOf 0x10#8 payload =
    payload.take (9 + ((payload.getD 2 0#8).toNat + 256 * (payload.getD 3 0#8).toNat))) ∧
  (∀ payload : List Byte, recordOf 0x11#8 payload = payload ∧ recordOf 0x12#8 payload = payload) ∧
  ∀ (s : State) (record : List Byte), s.Inv →
    (s.sessionType = 0x10#8 → record =
      s.pktBuf.take (9 + ((s.pktBuf.getD 2 0#8).toNat + 256 * (s.pktBuf.getD 3 0#8).toNat))) →
    (s.sessionType = 0x11#8 ∨ s.sessionType = 0x12#8 → record = s.pktBuf) →
    s.frPhase = .checkPacket → crc16 s.pktBuf = s.pktCrc →
    validPacket s.geom0 s.sessionType s.pktBuf s.pktIndex = true →
    s.msgLen.toNat + record.length ≤ s.params.msgCap →
    ∃ t, blockStep s = t ∧
      (∀ a, t.msg.read a =
        if s.msgLen.toNat ≤ a ∧ a < s.msgLen.toNat + record.length then
          record.getD (a - s.msgLen.toNat) 0#8
        else s.msg.read a) ∧
      t.msgLen.toNat = s.msgLen.toNat + record.length ∧
      t.geom0 = (if s.sessionType = 0x10#8 ∧ s.pktIndex = 0#16 then
        ⟨u16le s.pktBuf 2, s.pktBuf.getD 4 0#8, s.pktBuf.getD 5 0#8⟩ else s.geom0) ∧
      t.pktIndex.toNat = s.pktIndex.toNat + 1 ∧
      t = { s with
        msg := t.msg, msgLen := t.msgLen, geom0 := t.geom0, pktIndex := t.pktIndex,
        txq := s.txq ++ [0x01#8], lastResult := 0x01#8,
        sessionState := if t.pktIndex = s.pktCount then .complete else .payloadRead,
        frPhase := if t.pktIndex = s.pktCount then .none else .readPrefix,
        response := if t.pktIndex = s.pktCount then some ⟨0x01#8, t.pktIndex.setWidth 32⟩
          else s.response,
        busy := if t.pktIndex = s.pktCount then false else s.busy }

/-- A frame as the sender transmits it (30_encoding.md rule R104), valid and within capacity, is accepted by
three turns of the block: it leaves RXQ, its record (41_framer.md rule R178) is readable where it was
appended, 0x01 is sent and exactly one packet more is counted. That each read is one turn is read from rule
R152 (log entry 7). -/
def Obligations.SentFrameIsAccepted : Prop :=
  ∀ (s : State) (payload record rest : List Byte), s.Inv → s.agenda = [] →
    (s.sessionType = 0x10#8 → record =
      payload.take (9 + ((payload.getD 2 0#8).toNat + 256 * (payload.getD 3 0#8).toNat))) →
    (s.sessionType = 0x11#8 ∨ s.sessionType = 0x12#8 → record = payload) →
    s.sessionState = .payloadRead → s.frPhase = .readPrefix →
    s.rxq = frameBytes payload ++ rest → payload.length ≤ 65535 →
    validPacket s.geom0 s.sessionType payload s.pktIndex = true →
    s.msgLen.toNat + record.length ≤ s.params.msgCap →
    ∃ t, Host.Core.run Sys2Proof.core 3 s = .next t ∧
      t.rxq = rest ∧ t.txq = s.txq ++ [0x01#8] ∧
      t.pktIndex.toNat = s.pktIndex.toNat + 1 ∧
      t.msgLen.toNat = s.msgLen.toNat + record.length ∧
      (∀ a, t.msg.read a =
        if s.msgLen.toNat ≤ a ∧ a < s.msgLen.toNat + record.length then
          record.getD (a - s.msgLen.toNat) 0#8
        else s.msg.read a) ∧
      (t.sessionState = .complete ↔ t.pktIndex = s.pktCount) ∧
      (t.sessionState = .payloadRead ∧ t.frPhase = .readPrefix ∧ t.busy = true ∨
        t.sessionState = .complete ∧ t.frPhase = .none ∧ t.busy = false ∧
          t.response = some ⟨0x01#8, s.pktCount.setWidth 32⟩)

/-- A frame one byte of whose payload was corrupted on the link is never accepted: four turns of the block
answer 0x03, drop it, and are ready for the retransmission with PKT_INDEX, MSG_LEN, MSG and GEOM0 as they
were (41_framer.md rule R166 with 40_crc.md rule R138). That each read is one turn and that the fourth turn
ends the delay is the model's reading (log entries 7 and 8). -/
def Obligations.CorruptedFrameIsRetriedNotAccepted : Prop :=
  ∀ (s : State) (payload rest : List Byte) (i : Nat) (b : Byte), s.agenda = [] →
    s.sessionState = .payloadRead → s.frPhase = .readPrefix →
    i < payload.length → payload.length ≤ 65535 → payload.getD i 0#8 ≠ b →
    s.rxq = u16Bytes (crc16 payload) ++ u16Bytes (BitVec.ofNat 16 payload.length) ++
      payload.set i b ++ rest →
    Host.Core.run Sys2Proof.core 4 s = .next { s with
      rxq := rest, txq := s.txq ++ [0x03#8], lastResult := 0x03#8, frPhase := .readPrefix,
      pktCrc := crc16 payload, pktLen := BitVec.ofNat 16 payload.length,
      pktBuf := payload.set i b }

/-- While no more bytes arrive, the packet loop always responds: within as many turns of the block as RXQ
holds bytes, and four (41_framer.md rule R196: a short read ends it where nothing else does). The bound rests
on the model's reading that a short read and the end of the delay happen at the block's turn (log entries 7
and 8). -/
def Obligations.PacketLoopRespondsWhenNoBytesArrive : Prop :=
  ∀ s : State, s.Inv → s.sessionState = .payloadRead → s.agenda = [] →
    ∃ k t, k ≤ s.rxq.length + 4 ∧ Host.Core.run Sys2Proof.core k s = .next t ∧
      t.busy = false ∧ (t.sessionState = .complete ∨ t.sessionState = .aborted) ∧
      t.response ≠ none

/-- The endless run of 41_framer.md rule R196: there is an environment that only ever appends bytes to RXQ,
under which the packet loop never responds although the block takes its turns: it stays BUSY for ever and
sends as many 0x03 as one likes. The endless run is the model's `feedRun`, an environment outside State (log
entry 21); the reads and the delay are turns of the block (log entries 7 and 8). -/
def Obligations.EndlessMismatchRunExists : Prop :=
  ∀ s : State, s.Inv → s.sessionState = .payloadRead → s.frPhase = .readPrefix →
    s.agenda = [] → s.rxq = [] →
    ∃ feed : Nat → List Move,
      (∀ n, ∀ m ∈ feed n, ∃ b, m = .receive b) ∧
      (∀ n, ∃ t, feedRun feed n s = .next t ∧ t.busy = true ∧ t.sessionState = .payloadRead ∧
        t.pktIndex = s.pktIndex ∧ t.response = s.response) ∧
      (∀ k, ∃ n t, feedRun feed n s = .next t ∧ t.txq = s.txq ++ List.replicate k 0x03#8)

/-! ### The framer: session end and views (section 8) -/

/-- FR_FLUSH ends the session in every state and leaves everything but the session alone. -/
def Obligations.FlushReleasesTheMessage : Prop :=
  decode 0x12#64 = .instr .frFlush ∧
  ∀ s : State, exec .frFlush s = .next { s with
    sessionState := .idle, sessionType := 0x00#8, pktCount := 0#16, pktIndex := 0#16,
    msgLen := 0#25, response := some ⟨0x01#8, 0#32⟩, busy := false }

/-- The framer's views of 10_state.md rule R44: which bits of DATA hold which element, and the byte of the
message store that FR_MSG_READ answers below MSG_LEN; nothing else of the state changes. -/
def Obligations.FramerViewsAnswerTheirElements : Prop :=
  (∀ s : State, exec .frCurrent s = .next { s with
    response := some ⟨0x01#8,
      (if s.sessionState = .headerRead ∨ s.sessionState = .complete then 1#32 else 0#32) |||
        (if s.sessionState = .complete then 2#32 else 0#32) |||
        (s.sessionType.setWidth 32 <<< 8)⟩, busy := false }) ∧
  (∀ s : State, exec .frStatus s = .next { s with
    response := some ⟨0x01#8,
      (match s.sessionState with
        | .idle => 0#32 | .headerRead => 1#32 | .payloadRead => 2#32
        | .complete => 3#32 | .aborted => 4#32) |||
        (s.lastResult.setWidth 32 <<< 8) ||| (s.sessionType.setWidth 32 <<< 16)⟩, busy := false }) ∧
  (∀ s : State, exec .frPkt s = .next { s with
    response := some ⟨0x01#8,
      s.pktIndex.setWidth 32 ||| (s.pktCount.setWidth 32 <<< 16)⟩, busy := false }) ∧
  (∀ s : State, exec .frMsgLen s = .next { s with
    response := some ⟨0x01#8, s.msgLen.setWidth 32⟩, busy := false }) ∧
  (∀ (s : State) (addr : Nat),
    s.sessionState = .headerRead ∨ s.sessionState = .complete → addr < s.msgLen.toNat →
    exec (.frMsgRead addr) s = .next { s with
      response := some ⟨0x01#8, (s.msg.read addr).setWidth 32⟩, busy := false })

/-- 60_exceptions.md rule R304: each case that raises Bounds, with exactly its effects. -/
def Obligations.BoundsHasExactlyItsEffects : Prop :=
  ∀ (s : State) (i : Instr),
    (∃ pl x y, i = .fbIsSet pl x y ∧ ¬ InB s.params x y) ∨
    (∃ x y, i = .fbIsDirty x y ∧ ¬ InB s.params x y) ∨
    (∃ pl xb y, i = .fbReadRow8 pl xb y ∧
      ¬ ((0 ≤ xb ∧ xb < ((s.params.fbW + 7) / 8 : Nat)) ∧ (0 ≤ y ∧ y < s.params.fbH))) ∨
    (∃ addr, i = .frMsgRead addr ∧
      ((s.sessionState ≠ .headerRead ∧ s.sessionState ≠ .complete) ∨ s.msgLen.toNat ≤ addr)) →
    exec i s = .next { s with
      err := (s.err ||| 0x02#8) &&& 0x03#8, response := some ⟨0x81#8, 0#32⟩, busy := false }

/-- 20_memory.md rule R85: once FR_FLUSH, Abort or reset has ended a session, and until a header starts the
next, every FR_MSG_READ raises Bounds. -/
def Obligations.NoStaleMessageByteIsReadable : Prop :=
  (∀ (s t : State) (addr : Nat), exec .frFlush s = .next t →
    ∃ u, exec (.frMsgRead addr) t = .next u ∧ u.response = some ⟨0x81#8, 0#32⟩) ∧
  (∀ (s : State) (addr : Nat), s.sessionState = .payloadRead →
    (blockStep s).sessionState = .aborted →
    ∃ u, exec (.frMsgRead addr) (blockStep s) = .next u ∧ u.response = some ⟨0x81#8, 0#32⟩) ∧
  (∀ (s t : State) (rest : List Move) (addr : Nat), s.agenda = .reset :: rest → step s = .next t →
    ∃ u, exec (.frMsgRead addr) t = .next u ∧ u.response = some ⟨0x81#8, 0#32⟩) ∧
  (∀ (s t : State) (addr : Nat), step s = .next t →
    s.sessionState = .idle ∨ s.sessionState = .aborted →
    ∃ u, exec (.frMsgRead addr) t = .next u ∧ u.response = some ⟨0x81#8, 0#32⟩)

/-! ### The framebuffer (42_framebuffer.md) -/

/-- FB_SET makes the one bit 1 when the cell is on the screen; every other bit of every plane, and every
other element, is unchanged. -/
def Obligations.FbSetWritesOneBit : Prop :=
  ∀ (pl : PlaneId) (x y : Int) (s : State), ∃ t, exec (.fbSet pl x y) s = .next t ∧
    (∀ q c, t.pixel q c =
      if InB s.params x y ∧ q = pl ∧ (c.x : Int) = x ∧ (c.y : Int) = y then true
      else s.pixel q c) ∧
    t = { s with
      planeCur := t.planeCur, planePrev := t.planePrev, planePers := t.planePers,
      response := some ⟨0x01#8, 0#32⟩, busy := false }

/-- FB_UNSET makes the one bit 0 when the cell is on the screen, except that CUR is kept where PERS is 1;
every other bit, and every other element, is unchanged. -/
def Obligations.FbUnsetClearsOneBitUnlessSticky : Prop :=
  ∀ (pl : PlaneId) (x y : Int) (s : State), ∃ t, exec (.fbUnset pl x y) s = .next t ∧
    (∀ q c, t.pixel q c =
      if InB s.params x y ∧ q = pl ∧ (c.x : Int) = x ∧ (c.y : Int) = y ∧
          ¬ (pl = .cur ∧ s.pixel .pers c = true) then false
      else s.pixel q c) ∧
    t = { s with
      planeCur := t.planeCur, planePrev := t.planePrev, planePers := t.planePers,
      response := some ⟨0x01#8, 0#32⟩, busy := false }

/-- FB_IS_SET, FB_IS_DIRTY and FB_GEOMETRY answer what they name and change nothing. -/
def Obligations.CellReadsAnswerTheBits : Prop :=
  (∀ (pl : PlaneId) (x y : Int) (s : State), InB s.params x y →
    exec (.fbIsSet pl x y) s = .next { s with
      response := some ⟨0x01#8, if s.pixel pl ⟨x.toNat, y.toNat⟩ then 1#32 else 0#32⟩,
      busy := false }) ∧
  (∀ (x y : Int) (s : State), InB s.params x y →
    exec (.fbIsDirty x y) s = .next { s with
      response := some ⟨0x01#8,
        if s.pixel .cur ⟨x.toNat, y.toNat⟩ = s.pixel .prev ⟨x.toNat, y.toNat⟩ then 0#32
        else 1#32⟩, busy := false }) ∧
  (∀ s : State, s.params.Legal →
    ∃ d, exec .fbGeometry s = .next { s with response := some ⟨0x01#8, d⟩, busy := false } ∧
      d.toNat = s.params.fbW + 65536 * s.params.fbH)

/-- FB_CLEAR and FB_CLEAR_REGION: with P = 1 CUR and PERS become 0 on every cell of the region that is on
the screen, with P = 0 CUR becomes 0 there where PERS is 0; every other bit, PREV among them, and every
other element is unchanged. -/
def Obligations.ClearFollowsThePersistenceRule : Prop :=
  (∀ (p : Bool) (x y : Int) (wd ht : Nat) (s : State),
    ∃ t, exec (.fbClearRegion p x y wd ht) s = .next t ∧
      (∀ c, t.pixel .prev c = s.pixel .prev c) ∧
      (∀ c, t.pixel .pers c =
        if p = true ∧ (x ≤ c.x ∧ (c.x : Int) < x + wd) ∧ (y ≤ c.y ∧ (c.y : Int) < y + ht) ∧
            InB s.params c.x c.y then false
        else s.pixel .pers c) ∧
      (∀ c, t.pixel .cur c =
        if (p = true ∨ s.pixel .pers c = false) ∧
            (x ≤ c.x ∧ (c.x : Int) < x + wd) ∧ (y ≤ c.y ∧ (c.y : Int) < y + ht) ∧
            InB s.params c.x c.y then false
        else s.pixel .cur c) ∧
      t = { s with
        planeCur := t.planeCur, planePers := t.planePers,
        response := some ⟨0x01#8, 0#32⟩, busy := false }) ∧
  (∀ (p : Bool) (s : State),
    ∃ t, exec (.fbClear p) s = .next t ∧
      (∀ c, t.pixel .prev c = s.pixel .prev c) ∧
      (∀ c, t.pixel .pers c =
        if p = true ∧ InB s.params c.x c.y then false else s.pixel .pers c) ∧
      (∀ c, t.pixel .cur c =
        if (p = true ∨ s.pixel .pers c = false) ∧ InB s.params c.x c.y then false
        else s.pixel .cur c) ∧
      t = { s with
        planeCur := t.planeCur, planePers := t.planePers,
        response := some ⟨0x01#8, 0#32⟩, busy := false })

/-- 42_framebuffer.md rule R242: where PERS is set, FB_UNSET CUR and the two clears with p = 0 leave CUR
unchanged; a clear with p = 1 always yields CUR = 0 and PERS = 0 on the cells it covers. -/
def Obligations.PersistenceInvariantHolds : Prop :=
  (∀ (s t : State) (i : Instr) (c : Pixel), s.pixel .pers c = true →
    (∃ x y, i = .fbUnset .cur x y) ∨ i = .fbClear false ∨
      (∃ x y wd ht, i = .fbClearRegion false x y wd ht) →
    exec i s = .next t → t.pixel .cur c = s.pixel .cur c) ∧
  (∀ (s t : State) (c : Pixel), InB s.params c.x c.y → exec (.fbClear true) s = .next t →
    t.pixel .cur c = false ∧ t.pixel .pers c = false) ∧
  (∀ (s t : State) (x y : Int) (wd ht : Nat) (c : Pixel), InB s.params c.x c.y →
    (x ≤ c.x ∧ (c.x : Int) < x + wd) ∧ (y ≤ c.y ∧ (c.y : Int) < y + ht) →
    exec (.fbClearRegion true x y wd ht) s = .next t →
    t.pixel .cur c = false ∧ t.pixel .pers c = false)

/-- FB_ADVANCE copies CUR into PREV for one cell of the screen and nothing else. -/
def Obligations.AdvanceCopiesOneCell : Prop :=
  ∀ (x y : Int) (s : State), ∃ t, exec (.fbAdvance x y) s = .next t ∧
    (∀ q c, t.pixel q c =
      if InB s.params x y ∧ q = .prev ∧ (c.x : Int) = x ∧ (c.y : Int) = y then s.pixel .cur c
      else s.pixel q c) ∧
    t = { s with
      planePrev := t.planePrev, response := some ⟨0x01#8, 0#32⟩, busy := false }

/-- FB_ADVANCE_ALL copies CUR into PREV for every cell of the screen and nothing else; afterwards
FB_DIRTY_COUNT answers 0, and a second FB_ADVANCE_ALL changes nothing. -/
def Obligations.AdvanceAllCopiesEveryCell : Prop :=
  ∀ s : State, ∃ t, exec .fbAdvanceAll s = .next t ∧
    (∀ c, InB s.params c.x c.y → t.pixel .prev c = s.pixel .cur c) ∧
    t = { s with
      planePrev := t.planePrev, response := some ⟨0x01#8, 0#32⟩, busy := false } ∧
    exec .fbDirtyCount t = .next { t with response := some ⟨0x01#8, 0#32⟩, busy := false } ∧
    exec .fbAdvanceAll t = .next t

/-- FB_DIRTY_COUNT answers how many cells of the screen have CUR different from PREV, without truncation,
and changes nothing. -/
def Obligations.DirtyCountCountsTheDifferingCells : Prop :=
  ∀ s : State, s.params.Legal → ∃ d,
    exec .fbDirtyCount s = .next { s with response := some ⟨0x01#8, d⟩, busy := false } ∧
    d.toNat = ((Finset.range s.params.fbW ×ˢ Finset.range s.params.fbH).filter fun c =>
      s.pixel .cur ⟨c.1, c.2⟩ ≠ s.pixel .prev ⟨c.1, c.2⟩).card

/-- FB_READ_ROW8 answers the byte of the byte-row view: bit 7 - i is pixel 8·xb + i of the row, and 0 past the
right edge; nothing changes. -/
def Obligations.ReadRow8PacksEightPixels : Prop :=
  ∀ (pl : PlaneId) (xb y : Int) (s : State),
    0 ≤ xb → xb < ((s.params.fbW + 7) / 8 : Nat) → 0 ≤ y → y < s.params.fbH →
    ∃ v : Byte,
      exec (.fbReadRow8 pl xb y) s = .next { s with
        response := some ⟨0x01#8, v.setWidth 32⟩, busy := false } ∧
      ∀ i, i < 8 → v.getLsbD (7 - i) =
        (decide (8 * xb.toNat + i < s.params.fbW) && s.pixel pl ⟨8 * xb.toNat + i, y.toNat⟩)

/-- A row of a frame bitmap (30_encoding.md rule R110), all of whose bytes are present, drawn at x = 0 into any
row y of the screen, with columns ≤ FB_W and zero padding, reads back bit for bit through FB_READ_ROW8
(42_framebuffer.md rule R240). The pixel at column c and row r of a frame is bit 7 - (c mod 8) of byte
9 + r·ceil8(columns) + c div 8 of the payload. -/
def Obligations.DrawnFrameRowReadsBack : Prop :=
  (∀ (frame : List Byte) (c r : Nat),
    9 + r * (((frame.getD 5 0#8).toNat + 7) / 8) + c / 8 < frame.length → framePixel frame c r =
    (frame.getD (9 + r * (((frame.getD 5 0#8).toNat + 7) / 8) + c / 8) 0#8).getLsbD (7 - c % 8)) ∧
  ∀ (s : State) (frame : List Byte) (rows cols xb row y : Nat),
    rows = (frame.getD 4 0#8).toNat → cols = (frame.getD 5 0#8).toNat →
    9 + rows * ((cols + 7) / 8) ≤ frame.length →
    cols ≤ s.params.fbW → row < rows → y < s.params.fbH → xb < (cols + 7) / 8 →
    (∀ c, c < cols → s.pixel .cur ⟨c, y⟩ = framePixel frame c row) →
    (∀ c, cols ≤ c → c < 8 * ((cols + 7) / 8) →
      s.pixel .cur ⟨c, y⟩ = false ∧ framePixel frame c row = false) →
    exec (.fbReadRow8 .cur xb y) s = .next { s with
      response := some ⟨0x01#8,
        (frame.getD (9 + row * ((cols + 7) / 8) + xb) 0#8).setWidth 32⟩,
      busy := false }

/-- The cancellation of 70_reset_and_hazards.md rule R360: FR_FLUSH, FB_CLEAR 1 and FB_ADVANCE_ALL, presented
one after the other, release the message and make every bit of every plane 0; a fourth command,
FB_DIRTY_COUNT, then reads 0. -/
def Obligations.CancellationClearsEverything : Prop :=
  ∀ (s : State) (rest : List Move), s.Inv → s.busy = false →
    s.agenda = [.command (encode .frFlush), .command (encode (.fbClear true)),
      .command (encode .fbAdvanceAll), .command (encode .fbDirtyCount)] ++ rest →
    ∃ t, Host.Core.run Sys2Proof.core 4 s = .next t ∧ t.agenda = rest ∧
      t.sessionState = .idle ∧ t.msgLen = 0#25 ∧ t.rxq = s.rxq ∧ t.txq = s.txq ∧
      (∀ pl c, t.pixel pl c = false) ∧ t.response = some ⟨0x01#8, 0#32⟩

/-! ### The whole machine -/

/-- The invariant holds right after reset, whatever the OPEN parameters are. -/
def Obligations.ResetMeetsTheInvariant : Prop := State.reset.Inv

/-- The invariant is kept by every step, whichever agent moves. -/
def Obligations.EveryStepKeepsTheInvariant : Prop :=
  ∀ s t : State, s.Inv → step s = .next t → t.Inv

/-- From a state of the invariant no step faults or is refused. -/
def Obligations.NoStepStopsTheMachine : Prop :=
  ∀ s : State, s.Inv → ∃ t, step s = .next t

/-- 10_state.md rule R28: the only transitions of SESSION_STATE. -/
def Obligations.OnlyTheListedSessionTransitions : Prop :=
  ∀ s t : State, s.Inv → step s = .next t → t.sessionState ≠ s.sessionState →
    ((s.sessionState = .idle ∨ s.sessionState = .aborted) ∧ t.sessionState = .headerRead ∧
      ∃ rest, s.agenda = .command (encode .frTryHeader) :: rest) ∨
    (s.sessionState = .aborted ∧ t.sessionState = .idle ∧
      ∃ rest, s.agenda = .command (encode .frTryHeader) :: rest) ∨
    (s.sessionState = .headerRead ∧ t.sessionState = .payloadRead ∧
      ∃ rest, s.agenda = .command (encode .frReadMessage) :: rest) ∨
    (s.sessionState = .payloadRead ∧ (t.sessionState = .complete ∨ t.sessionState = .aborted)) ∨
    (t.sessionState = .idle ∧ ∃ rest, s.agenda = .command (encode .frFlush) :: rest) ∨
    (t.sessionState = .idle ∧ ∃ rest, s.agenda = .reset :: rest)

/-- 41_framer.md rule R153 and 10_state.md rule R25 over every step but the transport's delivery and reset:
either TXQ and LAST_RESULT are unchanged, or one result byte was sent, appended to TXQ and kept in
LAST_RESULT. -/
def Obligations.ResultBytesAreSentOneAtATime : Prop :=
  ∀ s t : State, step s = .next t →
    (∀ rest, s.agenda ≠ .deliver :: rest ∧ s.agenda ≠ .reset :: rest) →
    (t.txq = s.txq ∧ t.lastResult = s.lastResult) ∨
    ∃ b, (b = 0x01#8 ∨ b = 0x02#8 ∨ b = 0x03#8 ∨ b = 0x05#8) ∧
      t.txq = s.txq ++ [b] ∧ t.lastResult = b

/-- 20_memory.md rule R79 for RXQ: a step appends one byte at the back, takes bytes from the front, or leaves
the queue alone; only reset empties it otherwise. -/
def Obligations.RxqIsConsumedFromItsFrontOnly : Prop :=
  ∀ s t : State, step s = .next t → (∀ rest, s.agenda ≠ .reset :: rest) →
    (∃ b rest, s.agenda = .receive b :: rest ∧ t.rxq = s.rxq ++ [b]) ∨
    ∃ taken, s.rxq = taken ++ t.rxq

/-- 10_state.md rule R24: ERR bits are sticky. Only ERR_CLEAR and reset clear one. -/
def Obligations.ErrBitsAreSticky : Prop :=
  ∀ s t : State, s.Inv → step s = .next t → (∀ rest, s.agenda ≠ .reset :: rest) →
    (∀ d8 rest, s.agenda ≠ .command (encode (.errClear d8)) :: rest) →
    s.err &&& t.err = s.err

/-- 41_framer.md rule R167: when the packet loop responds, LAST_RESULT is 0x01 or 0x05 and RES is the same
value, never 0x03. -/
def Obligations.PacketLoopRespondsOkOrUnexpectedData : Prop :=
  ∀ s : State, s.Inv → s.busy = true → (blockStep s).busy = false →
    ∃ r, (blockStep s).response = some r ∧ r.res = (blockStep s).lastResult ∧
      (r.res = 0x01#8 ∧ (blockStep s).sessionState = .complete ∨
        r.res = 0x05#8 ∧ (blockStep s).sessionState = .aborted)

/-- 20_memory.md rule R73 and 30_encoding.md rule R101: a command taken from the port responds in the same
step, with exactly one response, unless it is FR_READ_MESSAGE in HEADER_READ, which stays BUSY. -/
def Obligations.EveryOtherCommandRespondsAtOnce : Prop :=
  ∀ (s t : State) (w : Command) (rest : List Move), s.Inv → s.busy = false →
    s.agenda = .command w :: rest → step s = .next t →
    (t.busy = false ∧ t.response ≠ none) ∨
    (decode w = .instr .frReadMessage ∧ s.sessionState = .headerRead ∧ t.busy = true ∧
      t.response = none)

/-- 20_memory.md rule R75: the write commands listed there are idempotent, the response included. -/
def Obligations.ListedWriteCommandsAreIdempotent : Prop :=
  ∀ (s t : State) (i : Instr),
    (∃ pl x y, i = .fbSet pl x y) ∨ (∃ pl x y, i = .fbUnset pl x y) ∨ (∃ p, i = .fbClear p) ∨
    (∃ p x y wd ht, i = .fbClearRegion p x y wd ht) ∨ (∃ x y, i = .fbAdvance x y) ∨
    i = .fbAdvanceAll ∨ i = .crcInit ∨ i = .frFlush ∨ (∃ d8, i = .errClear d8) →
    exec i s = .next t → exec i t = .next t
end

