-- ==== Sys2Proof/Laws/Config.lean ====
section
/-! SUPPORT. The opaque parameters are in the ranges of 00_scope.md rule R9, and nothing else is known
of them. -/

namespace Sys2Proof.Laws

/-- Whatever the opaque constants are, the parameters are legal. -/
theorem config_params_legal : Config.params.Legal := by
  refine ⟨⟨?_, ?_⟩, ⟨?_, ?_⟩, ⟨?_, ?_⟩, ?_, ?_⟩
  · simp [Config.params]
  · have := Config.fbWLessOne.isLt; simp only [Config.params]; omega
  · simp [Config.params]
  · have := Config.fbHLessOne.isLt; simp only [Config.params]; omega
  · simp [Config.params]
  · have := Config.msgCapLessOne.isLt; simp only [Config.params]; omega
  · simp [Config.params]
  · simp only [Config.params]; exact Nat.mod_lt _ (Nat.two_pow_pos _)

end Sys2Proof.Laws
end

