-- ==== Sys2Proof/Laws/Memory.lean ====
section
/-! SUPPORT. The message store: what each operation leaves to be read, and that each keeps the
canonical form. -/

namespace Sys2Proof.Laws

open Sys2Proof.Machine

theorem read_nil (a : Nat) : Memory.read a [] = 0x00#8 := rfl

theorem read_cons (a k : Nat) (v : Byte) (m : Memory) :
    Memory.read a ((k, v) :: m) = if k = a then v else Memory.read a m := rfl

/-- The canonical form, unfolded once. -/
theorem wf_cons (k : Nat) (v : Byte) (m : Memory) :
    Memory.wf ((k, v) :: m) = true ↔
      v ≠ unlistedByte ∧ (∀ cell ∈ m, k < cell.1) ∧ Memory.wf m = true := by
  simp [Memory.wf, and_assoc]

theorem mem_without (a : Nat) (m : Memory) (cell : Host.Cell) :
    cell ∈ Memory.without a m ↔ cell ∈ m ∧ cell.1 ≠ a := by
  simp [Memory.without]

theorem read_without (a c : Nat) (m : Memory) :
    Memory.read c (Memory.without a m) = if c = a then 0x00#8 else Memory.read c m := by
  induction m with
  | nil => simp [Memory.without, Memory.read, unlistedByte]
  | cons cell m ih =>
    obtain ⟨k, v⟩ := cell
    by_cases hk : k = a
    · subst hk
      have : Memory.without k ((k, v) :: m) = Memory.without k m := by simp [Memory.without]
      rw [this, ih, read_cons]
      by_cases hc : c = k
      · simp [hc]
      · simp [hc, Ne.symm hc]
    · have : Memory.without a ((k, v) :: m) = (k, v) :: Memory.without a m := by
        simp [Memory.without, hk]
      rw [this, read_cons, ih, read_cons]
      by_cases hc : k = c
      · subst hc; simp [hk]
      · simp [hc]

theorem wf_without (a : Nat) (m : Memory) (h : m.wf = true) : (m.without a).wf = true := by
  induction m with
  | nil => rfl
  | cons cell m ih =>
    obtain ⟨k, v⟩ := cell
    obtain ⟨hv, hlt, hm⟩ := (wf_cons k v m).1 h
    by_cases hk : k = a
    · have : Memory.without a ((k, v) :: m) = Memory.without a m := by simp [Memory.without, hk]
      rw [this]; exact ih hm
    · have : Memory.without a ((k, v) :: m) = (k, v) :: Memory.without a m := by
        simp [Memory.without, hk]
      rw [this]
      exact (wf_cons _ _ _).2 ⟨hv, fun c hc => hlt c ((mem_without _ _ _).1 hc).1, ih hm⟩

theorem mem_place (a : Nat) (b : Byte) (m : Memory) (cell : Host.Cell) :
    cell ∈ Memory.place a b m ↔ cell = (a, b) ∨ cell ∈ m := by
  induction m with
  | nil => simp [Memory.place]
  | cons d m ih =>
    obtain ⟨k, v⟩ := d
    simp only [Memory.place]
    split
    · simp
    · simp only [List.mem_cons, ih]; tauto

theorem read_place (a c : Nat) (b : Byte) (m : Memory) (h : ∀ cell ∈ m, cell.1 ≠ a) :
    Memory.read c (Memory.place a b m) = if c = a then b else Memory.read c m := by
  induction m with
  | nil => simp [Memory.place, Memory.read, eq_comm]
  | cons d m ih =>
    obtain ⟨k, v⟩ := d
    have hk : k ≠ a := h (k, v) (by simp)
    have ih := ih fun cell hc => h cell (by simp [hc])
    simp only [Memory.place]
    split
    · rw [read_cons]; simp [eq_comm]
    · rw [read_cons, ih, read_cons]
      by_cases hc : k = c
      · subst hc; simp [hk]
      · simp [hc]

theorem wf_place (a : Nat) (b : Byte) (m : Memory) (h : ∀ cell ∈ m, cell.1 ≠ a)
    (hb : b ≠ unlistedByte) (hm : m.wf = true) : (m.place a b).wf = true := by
  induction m with
  | nil => simp [Memory.place, Memory.wf, hb]
  | cons d m ih =>
    obtain ⟨k, v⟩ := d
    have hk : k ≠ a := h (k, v) (by simp)
    obtain ⟨hv, hlt, hm'⟩ := (wf_cons k v m).1 hm
    simp only [Memory.place]
    split
    · rename_i hak
      refine (wf_cons _ _ _).2 ⟨hb, fun c hc => ?_, hm⟩
      rcases List.mem_cons.1 hc with rfl | hc
      · exact hak
      · exact lt_trans hak (hlt c hc)
    · rename_i hak
      refine (wf_cons _ _ _).2 ⟨hv, fun c hc => ?_, ih (fun c hc => h c (by simp [hc])) hm'⟩
      rcases (mem_place _ _ _ _).1 hc with rfl | hc
      · simp only; omega
      · exact hlt c hc

/-- Read after write: the written address gives the byte, every other address what it gave before. -/
theorem read_write (a c : Nat) (b : Byte) (m : Memory) :
    Memory.read c (m.write a b) = if c = a then b else Memory.read c m := by
  unfold Memory.write
  split
  · rename_i hb; rw [read_without, hb]
  · rw [read_place _ _ _ _ fun cell hc => ((mem_without _ _ _).1 hc).2, read_without]
    by_cases hc : c = a <;> simp [hc]

/-- A write keeps the canonical form. -/
theorem wf_write (a : Nat) (b : Byte) (m : Memory) (h : m.wf = true) : (m.write a b).wf = true := by
  unfold Memory.write
  split
  · exact wf_without a m h
  · exact wf_place a b _ (fun cell hc => ((mem_without _ _ _).1 hc).2) ‹_› (wf_without a m h)

/-- An entry after a write is the written one or was there. -/
theorem mem_write {a : Nat} {b : Byte} {m : Memory} {cell : Host.Cell} (h : cell ∈ m.write a b) :
    cell = (a, b) ∨ cell ∈ m := by
  unfold Memory.write at h
  split at h
  · exact .inr ((mem_without _ _ _).1 h).1
  · rcases (mem_place _ _ _ _).1 h with h | h
    · exact .inl h
    · exact .inr ((mem_without _ _ _).1 h).1

/-- Consecutive bytes written: inside the range the bytes, outside it what was there. -/
theorem read_writeBytes (a c : Nat) (bs : List Byte) (m : Memory) :
    Memory.read c (m.writeBytes a bs) =
      if a ≤ c ∧ c < a + bs.length then byteAt bs (c - a) else Memory.read c m := by
  induction bs generalizing a m with
  | nil =>
    have : ¬(a ≤ c ∧ c < a + ([] : List Byte).length) := by simp
    rw [if_neg this]; rfl
  | cons b bs ih =>
    simp only [Memory.writeBytes, ih, read_write, List.length_cons]
    by_cases h1 : a + 1 ≤ c ∧ c < a + 1 + bs.length
    · rw [if_pos h1, if_pos (by omega)]
      obtain ⟨j, hj⟩ : ∃ j, c - a = j + 1 := ⟨c - a - 1, by omega⟩
      have : c - (a + 1) = j := by omega
      simp [byteAt, hj, this]
    · rw [if_neg h1]
      by_cases h2 : c = a
      · subst h2; simp [byteAt]
      · rw [if_neg h2, if_neg (by omega)]

/-- Writing consecutive bytes keeps the canonical form. -/
theorem wf_writeBytes (a : Nat) (bs : List Byte) (m : Memory) (h : m.wf = true) :
    (m.writeBytes a bs).wf = true := by
  induction bs generalizing a m with
  | nil => exact h
  | cons b bs ih => exact ih _ _ (wf_write a b m h)

/-- An entry after consecutive bytes are written lies in the range or was there. -/
theorem mem_writeBytes {a : Nat} {bs : List Byte} {m : Memory} {cell : Host.Cell}
    (h : cell ∈ m.writeBytes a bs) : (a ≤ cell.1 ∧ cell.1 < a + bs.length) ∨ cell ∈ m := by
  induction bs generalizing a m with
  | nil => exact .inr h
  | cons b bs ih =>
    simp only [List.length_cons]
    rcases ih h with h | h
    · exact .inl (by omega)
    · rcases mem_write h with rfl | h
      · exact .inl (by simp)
      · exact .inr h

/-- An address below every listed one reads as unlisted. -/
theorem read_of_lt (a : Nat) (m : Memory) (h : ∀ cell ∈ m, a < cell.1) :
    Memory.read a m = 0x00#8 := by
  induction m with
  | nil => rfl
  | cons d m ih =>
    obtain ⟨k, v⟩ := d
    have hk : a < k := h (k, v) (by simp)
    rw [read_cons, if_neg (by omega)]
    exact ih fun cell hc => h cell (by simp [hc])

/-- In canonical form, memories that read alike are the same data. -/
theorem eq_of_read_eq : ∀ (m n : Memory), m.wf = true → n.wf = true →
    (∀ a, Memory.read a m = Memory.read a n) → m = n
  | [], [], _, _, _ => rfl
  | [], (k, v) :: n, _, hn, h => by
    have := h k
    rw [read_nil, read_cons, if_pos rfl] at this
    exact absurd this.symm ((wf_cons _ _ _).1 hn).1
  | (k, v) :: m, [], hm, _, h => by
    have := h k
    rw [read_nil, read_cons, if_pos rfl] at this
    exact absurd this ((wf_cons _ _ _).1 hm).1
  | (k, v) :: m, (l, w) :: n, hm, hn, h => by
    obtain ⟨hv, hkm, hm'⟩ := (wf_cons _ _ _).1 hm
    obtain ⟨hw, hln, hn'⟩ := (wf_cons _ _ _).1 hn
    have hkl : k = l := by
      rcases lt_trichotomy k l with hlt | heq | hgt
      · have := h k
        rw [read_cons, if_pos rfl, read_cons, if_neg (by omega),
          read_of_lt k n fun c hc => lt_trans hlt (hln c hc)] at this
        exact absurd this hv
      · exact heq
      · have := h l
        rw [read_cons, if_neg (by omega), read_cons, if_pos rfl,
          read_of_lt l m fun c hc => lt_trans hgt (hkm c hc)] at this
        exact absurd this.symm hw
    subst hkl
    have hvw : v = w := by simpa [read_cons] using h k
    subst hvw
    have : m = n := eq_of_read_eq m n hm' hn' fun a => by
      by_cases ha : k = a
      · subst ha; rw [read_of_lt k m hkm, read_of_lt k n hln]
      · simpa [read_cons, ha] using h a
    rw [this]

end Sys2Proof.Laws
end

