-- ==== Sys2Proof/Laws/State.lean ====
section
/-! SUPPORT. One lemma per field per update of the state, true by rfl, so that no later proof unfolds a
record update; and what the updates leave of a pixel. -/

namespace Sys2Proof.Laws

open Sys2Proof.Machine

variable (s : State)


/-! ### respond -/

@[simp] theorem respond_params (res : Byte) (data : Data) : (s.respond res data).params = s.params := rfl
@[simp] theorem respond_crcReg (res : Byte) (data : Data) : (s.respond res data).crcReg = s.crcReg := rfl
@[simp] theorem respond_err (res : Byte) (data : Data) : (s.respond res data).err = s.err := rfl
@[simp] theorem respond_lastResult (res : Byte) (data : Data) : (s.respond res data).lastResult = s.lastResult := rfl
@[simp] theorem respond_busy (res : Byte) (data : Data) : (s.respond res data).busy = false := rfl
@[simp] theorem respond_clk (res : Byte) (data : Data) : (s.respond res data).clk = s.clk := rfl
@[simp] theorem respond_sessionState (res : Byte) (data : Data) : (s.respond res data).sessionState = s.sessionState := rfl
@[simp] theorem respond_sessionType (res : Byte) (data : Data) : (s.respond res data).sessionType = s.sessionType := rfl
@[simp] theorem respond_pktCount (res : Byte) (data : Data) : (s.respond res data).pktCount = s.pktCount := rfl
@[simp] theorem respond_pktIndex (res : Byte) (data : Data) : (s.respond res data).pktIndex = s.pktIndex := rfl
@[simp] theorem respond_msg (res : Byte) (data : Data) : (s.respond res data).msg = s.msg := rfl
@[simp] theorem respond_msgLen (res : Byte) (data : Data) : (s.respond res data).msgLen = s.msgLen := rfl
@[simp] theorem respond_geom0 (res : Byte) (data : Data) : (s.respond res data).geom0 = s.geom0 := rfl
@[simp] theorem respond_frPhase (res : Byte) (data : Data) : (s.respond res data).frPhase = s.frPhase := rfl
@[simp] theorem respond_pktCrc (res : Byte) (data : Data) : (s.respond res data).pktCrc = s.pktCrc := rfl
@[simp] theorem respond_pktLen (res : Byte) (data : Data) : (s.respond res data).pktLen = s.pktLen := rfl
@[simp] theorem respond_pktBuf (res : Byte) (data : Data) : (s.respond res data).pktBuf = s.pktBuf := rfl
@[simp] theorem respond_rxq (res : Byte) (data : Data) : (s.respond res data).rxq = s.rxq := rfl
@[simp] theorem respond_txq (res : Byte) (data : Data) : (s.respond res data).txq = s.txq := rfl
@[simp] theorem respond_planeCur (res : Byte) (data : Data) : (s.respond res data).planeCur = s.planeCur := rfl
@[simp] theorem respond_planePrev (res : Byte) (data : Data) : (s.respond res data).planePrev = s.planePrev := rfl
@[simp] theorem respond_planePers (res : Byte) (data : Data) : (s.respond res data).planePers = s.planePers := rfl
@[simp] theorem respond_response (res : Byte) (data : Data) : (s.respond res data).response = some ⟨res, data⟩ := rfl
@[simp] theorem respond_agenda (res : Byte) (data : Data) : (s.respond res data).agenda = s.agenda := rfl
@[simp] theorem respond_pixel (res : Byte) (data : Data) (pl : PlaneId) (c : Pixel) : (s.respond res data).pixel pl c = s.pixel pl c := by
  cases pl <;> rfl

/-! ### ok -/

@[simp] theorem ok_params (data : Data) : (s.ok data).params = s.params := rfl
@[simp] theorem ok_crcReg (data : Data) : (s.ok data).crcReg = s.crcReg := rfl
@[simp] theorem ok_err (data : Data) : (s.ok data).err = s.err := rfl
@[simp] theorem ok_lastResult (data : Data) : (s.ok data).lastResult = s.lastResult := rfl
@[simp] theorem ok_busy (data : Data) : (s.ok data).busy = false := rfl
@[simp] theorem ok_clk (data : Data) : (s.ok data).clk = s.clk := rfl
@[simp] theorem ok_sessionState (data : Data) : (s.ok data).sessionState = s.sessionState := rfl
@[simp] theorem ok_sessionType (data : Data) : (s.ok data).sessionType = s.sessionType := rfl
@[simp] theorem ok_pktCount (data : Data) : (s.ok data).pktCount = s.pktCount := rfl
@[simp] theorem ok_pktIndex (data : Data) : (s.ok data).pktIndex = s.pktIndex := rfl
@[simp] theorem ok_msg (data : Data) : (s.ok data).msg = s.msg := rfl
@[simp] theorem ok_msgLen (data : Data) : (s.ok data).msgLen = s.msgLen := rfl
@[simp] theorem ok_geom0 (data : Data) : (s.ok data).geom0 = s.geom0 := rfl
@[simp] theorem ok_frPhase (data : Data) : (s.ok data).frPhase = s.frPhase := rfl
@[simp] theorem ok_pktCrc (data : Data) : (s.ok data).pktCrc = s.pktCrc := rfl
@[simp] theorem ok_pktLen (data : Data) : (s.ok data).pktLen = s.pktLen := rfl
@[simp] theorem ok_pktBuf (data : Data) : (s.ok data).pktBuf = s.pktBuf := rfl
@[simp] theorem ok_rxq (data : Data) : (s.ok data).rxq = s.rxq := rfl
@[simp] theorem ok_txq (data : Data) : (s.ok data).txq = s.txq := rfl
@[simp] theorem ok_planeCur (data : Data) : (s.ok data).planeCur = s.planeCur := rfl
@[simp] theorem ok_planePrev (data : Data) : (s.ok data).planePrev = s.planePrev := rfl
@[simp] theorem ok_planePers (data : Data) : (s.ok data).planePers = s.planePers := rfl
@[simp] theorem ok_response (data : Data) : (s.ok data).response = some ⟨0x01#8, data⟩ := rfl
@[simp] theorem ok_agenda (data : Data) : (s.ok data).agenda = s.agenda := rfl
@[simp] theorem ok_pixel (data : Data) (pl : PlaneId) (c : Pixel) : (s.ok data).pixel pl c = s.pixel pl c := by
  cases pl <;> rfl

/-! ### writeErr -/

@[simp] theorem writeErr_params (v : Byte) : (s.writeErr v).params = s.params := rfl
@[simp] theorem writeErr_crcReg (v : Byte) : (s.writeErr v).crcReg = s.crcReg := rfl
@[simp] theorem writeErr_err (v : Byte) : (s.writeErr v).err = v &&& errMask := rfl
@[simp] theorem writeErr_lastResult (v : Byte) : (s.writeErr v).lastResult = s.lastResult := rfl
@[simp] theorem writeErr_busy (v : Byte) : (s.writeErr v).busy = s.busy := rfl
@[simp] theorem writeErr_clk (v : Byte) : (s.writeErr v).clk = s.clk := rfl
@[simp] theorem writeErr_sessionState (v : Byte) : (s.writeErr v).sessionState = s.sessionState := rfl
@[simp] theorem writeErr_sessionType (v : Byte) : (s.writeErr v).sessionType = s.sessionType := rfl
@[simp] theorem writeErr_pktCount (v : Byte) : (s.writeErr v).pktCount = s.pktCount := rfl
@[simp] theorem writeErr_pktIndex (v : Byte) : (s.writeErr v).pktIndex = s.pktIndex := rfl
@[simp] theorem writeErr_msg (v : Byte) : (s.writeErr v).msg = s.msg := rfl
@[simp] theorem writeErr_msgLen (v : Byte) : (s.writeErr v).msgLen = s.msgLen := rfl
@[simp] theorem writeErr_geom0 (v : Byte) : (s.writeErr v).geom0 = s.geom0 := rfl
@[simp] theorem writeErr_frPhase (v : Byte) : (s.writeErr v).frPhase = s.frPhase := rfl
@[simp] theorem writeErr_pktCrc (v : Byte) : (s.writeErr v).pktCrc = s.pktCrc := rfl
@[simp] theorem writeErr_pktLen (v : Byte) : (s.writeErr v).pktLen = s.pktLen := rfl
@[simp] theorem writeErr_pktBuf (v : Byte) : (s.writeErr v).pktBuf = s.pktBuf := rfl
@[simp] theorem writeErr_rxq (v : Byte) : (s.writeErr v).rxq = s.rxq := rfl
@[simp] theorem writeErr_txq (v : Byte) : (s.writeErr v).txq = s.txq := rfl
@[simp] theorem writeErr_planeCur (v : Byte) : (s.writeErr v).planeCur = s.planeCur := rfl
@[simp] theorem writeErr_planePrev (v : Byte) : (s.writeErr v).planePrev = s.planePrev := rfl
@[simp] theorem writeErr_planePers (v : Byte) : (s.writeErr v).planePers = s.planePers := rfl
@[simp] theorem writeErr_response (v : Byte) : (s.writeErr v).response = s.response := rfl
@[simp] theorem writeErr_agenda (v : Byte) : (s.writeErr v).agenda = s.agenda := rfl
@[simp] theorem writeErr_pixel (v : Byte) (pl : PlaneId) (c : Pixel) : (s.writeErr v).pixel pl c = s.pixel pl c := by
  cases pl <;> rfl

/-! ### raise -/

@[simp] theorem raise_params (e : PortError) : (s.raise e).params = s.params := rfl
@[simp] theorem raise_crcReg (e : PortError) : (s.raise e).crcReg = s.crcReg := rfl
@[simp] theorem raise_err (e : PortError) : (s.raise e).err = (s.readErr ||| e.errBit) &&& errMask := rfl
@[simp] theorem raise_lastResult (e : PortError) : (s.raise e).lastResult = s.lastResult := rfl
@[simp] theorem raise_busy (e : PortError) : (s.raise e).busy = false := rfl
@[simp] theorem raise_clk (e : PortError) : (s.raise e).clk = s.clk := rfl
@[simp] theorem raise_sessionState (e : PortError) : (s.raise e).sessionState = s.sessionState := rfl
@[simp] theorem raise_sessionType (e : PortError) : (s.raise e).sessionType = s.sessionType := rfl
@[simp] theorem raise_pktCount (e : PortError) : (s.raise e).pktCount = s.pktCount := rfl
@[simp] theorem raise_pktIndex (e : PortError) : (s.raise e).pktIndex = s.pktIndex := rfl
@[simp] theorem raise_msg (e : PortError) : (s.raise e).msg = s.msg := rfl
@[simp] theorem raise_msgLen (e : PortError) : (s.raise e).msgLen = s.msgLen := rfl
@[simp] theorem raise_geom0 (e : PortError) : (s.raise e).geom0 = s.geom0 := rfl
@[simp] theorem raise_frPhase (e : PortError) : (s.raise e).frPhase = s.frPhase := rfl
@[simp] theorem raise_pktCrc (e : PortError) : (s.raise e).pktCrc = s.pktCrc := rfl
@[simp] theorem raise_pktLen (e : PortError) : (s.raise e).pktLen = s.pktLen := rfl
@[simp] theorem raise_pktBuf (e : PortError) : (s.raise e).pktBuf = s.pktBuf := rfl
@[simp] theorem raise_rxq (e : PortError) : (s.raise e).rxq = s.rxq := rfl
@[simp] theorem raise_txq (e : PortError) : (s.raise e).txq = s.txq := rfl
@[simp] theorem raise_planeCur (e : PortError) : (s.raise e).planeCur = s.planeCur := rfl
@[simp] theorem raise_planePrev (e : PortError) : (s.raise e).planePrev = s.planePrev := rfl
@[simp] theorem raise_planePers (e : PortError) : (s.raise e).planePers = s.planePers := rfl
@[simp] theorem raise_response (e : PortError) : (s.raise e).response = some ⟨e.code, 0#32⟩ := rfl
@[simp] theorem raise_agenda (e : PortError) : (s.raise e).agenda = s.agenda := rfl
@[simp] theorem raise_pixel (e : PortError) (pl : PlaneId) (c : Pixel) : (s.raise e).pixel pl c = s.pixel pl c := by
  cases pl <;> rfl

/-! ### txSend -/

@[simp] theorem txSend_params (b : Byte) : (s.txSend b).params = s.params := rfl
@[simp] theorem txSend_crcReg (b : Byte) : (s.txSend b).crcReg = s.crcReg := rfl
@[simp] theorem txSend_err (b : Byte) : (s.txSend b).err = s.err := rfl
@[simp] theorem txSend_lastResult (b : Byte) : (s.txSend b).lastResult = b := rfl
@[simp] theorem txSend_busy (b : Byte) : (s.txSend b).busy = s.busy := rfl
@[simp] theorem txSend_clk (b : Byte) : (s.txSend b).clk = s.clk := rfl
@[simp] theorem txSend_sessionState (b : Byte) : (s.txSend b).sessionState = s.sessionState := rfl
@[simp] theorem txSend_sessionType (b : Byte) : (s.txSend b).sessionType = s.sessionType := rfl
@[simp] theorem txSend_pktCount (b : Byte) : (s.txSend b).pktCount = s.pktCount := rfl
@[simp] theorem txSend_pktIndex (b : Byte) : (s.txSend b).pktIndex = s.pktIndex := rfl
@[simp] theorem txSend_msg (b : Byte) : (s.txSend b).msg = s.msg := rfl
@[simp] theorem txSend_msgLen (b : Byte) : (s.txSend b).msgLen = s.msgLen := rfl
@[simp] theorem txSend_geom0 (b : Byte) : (s.txSend b).geom0 = s.geom0 := rfl
@[simp] theorem txSend_frPhase (b : Byte) : (s.txSend b).frPhase = s.frPhase := rfl
@[simp] theorem txSend_pktCrc (b : Byte) : (s.txSend b).pktCrc = s.pktCrc := rfl
@[simp] theorem txSend_pktLen (b : Byte) : (s.txSend b).pktLen = s.pktLen := rfl
@[simp] theorem txSend_pktBuf (b : Byte) : (s.txSend b).pktBuf = s.pktBuf := rfl
@[simp] theorem txSend_rxq (b : Byte) : (s.txSend b).rxq = s.rxq := rfl
@[simp] theorem txSend_txq (b : Byte) : (s.txSend b).txq = s.txq ++ [b] := rfl
@[simp] theorem txSend_planeCur (b : Byte) : (s.txSend b).planeCur = s.planeCur := rfl
@[simp] theorem txSend_planePrev (b : Byte) : (s.txSend b).planePrev = s.planePrev := rfl
@[simp] theorem txSend_planePers (b : Byte) : (s.txSend b).planePers = s.planePers := rfl
@[simp] theorem txSend_response (b : Byte) : (s.txSend b).response = s.response := rfl
@[simp] theorem txSend_agenda (b : Byte) : (s.txSend b).agenda = s.agenda := rfl
@[simp] theorem txSend_pixel (b : Byte) (pl : PlaneId) (c : Pixel) : (s.txSend b).pixel pl c = s.pixel pl c := by
  cases pl <;> rfl

/-! ### consume -/

@[simp] theorem consume_params (n : Nat) : (s.consume n).params = s.params := rfl
@[simp] theorem consume_crcReg (n : Nat) : (s.consume n).crcReg = s.crcReg := rfl
@[simp] theorem consume_err (n : Nat) : (s.consume n).err = s.err := rfl
@[simp] theorem consume_lastResult (n : Nat) : (s.consume n).lastResult = s.lastResult := rfl
@[simp] theorem consume_busy (n : Nat) : (s.consume n).busy = s.busy := rfl
@[simp] theorem consume_clk (n : Nat) : (s.consume n).clk = s.clk := rfl
@[simp] theorem consume_sessionState (n : Nat) : (s.consume n).sessionState = s.sessionState := rfl
@[simp] theorem consume_sessionType (n : Nat) : (s.consume n).sessionType = s.sessionType := rfl
@[simp] theorem consume_pktCount (n : Nat) : (s.consume n).pktCount = s.pktCount := rfl
@[simp] theorem consume_pktIndex (n : Nat) : (s.consume n).pktIndex = s.pktIndex := rfl
@[simp] theorem consume_msg (n : Nat) : (s.consume n).msg = s.msg := rfl
@[simp] theorem consume_msgLen (n : Nat) : (s.consume n).msgLen = s.msgLen := rfl
@[simp] theorem consume_geom0 (n : Nat) : (s.consume n).geom0 = s.geom0 := rfl
@[simp] theorem consume_frPhase (n : Nat) : (s.consume n).frPhase = s.frPhase := rfl
@[simp] theorem consume_pktCrc (n : Nat) : (s.consume n).pktCrc = s.pktCrc := rfl
@[simp] theorem consume_pktLen (n : Nat) : (s.consume n).pktLen = s.pktLen := rfl
@[simp] theorem consume_pktBuf (n : Nat) : (s.consume n).pktBuf = s.pktBuf := rfl
@[simp] theorem consume_rxq (n : Nat) : (s.consume n).rxq = s.rxq.drop n := rfl
@[simp] theorem consume_txq (n : Nat) : (s.consume n).txq = s.txq := rfl
@[simp] theorem consume_planeCur (n : Nat) : (s.consume n).planeCur = s.planeCur := rfl
@[simp] theorem consume_planePrev (n : Nat) : (s.consume n).planePrev = s.planePrev := rfl
@[simp] theorem consume_planePers (n : Nat) : (s.consume n).planePers = s.planePers := rfl
@[simp] theorem consume_response (n : Nat) : (s.consume n).response = s.response := rfl
@[simp] theorem consume_agenda (n : Nat) : (s.consume n).agenda = s.agenda := rfl
@[simp] theorem consume_pixel (n : Nat) (pl : PlaneId) (c : Pixel) : (s.consume n).pixel pl c = s.pixel pl c := by
  cases pl <;> rfl

/-! ### moveOn -/

@[simp] theorem moveOn_params (rest : List Move) : (s.moveOn rest).params = s.params := rfl
@[simp] theorem moveOn_crcReg (rest : List Move) : (s.moveOn rest).crcReg = s.crcReg := rfl
@[simp] theorem moveOn_err (rest : List Move) : (s.moveOn rest).err = s.err := rfl
@[simp] theorem moveOn_lastResult (rest : List Move) : (s.moveOn rest).lastResult = s.lastResult := rfl
@[simp] theorem moveOn_busy (rest : List Move) : (s.moveOn rest).busy = s.busy := rfl
@[simp] theorem moveOn_clk (rest : List Move) : (s.moveOn rest).clk = s.clk := rfl
@[simp] theorem moveOn_sessionState (rest : List Move) : (s.moveOn rest).sessionState = s.sessionState := rfl
@[simp] theorem moveOn_sessionType (rest : List Move) : (s.moveOn rest).sessionType = s.sessionType := rfl
@[simp] theorem moveOn_pktCount (rest : List Move) : (s.moveOn rest).pktCount = s.pktCount := rfl
@[simp] theorem moveOn_pktIndex (rest : List Move) : (s.moveOn rest).pktIndex = s.pktIndex := rfl
@[simp] theorem moveOn_msg (rest : List Move) : (s.moveOn rest).msg = s.msg := rfl
@[simp] theorem moveOn_msgLen (rest : List Move) : (s.moveOn rest).msgLen = s.msgLen := rfl
@[simp] theorem moveOn_geom0 (rest : List Move) : (s.moveOn rest).geom0 = s.geom0 := rfl
@[simp] theorem moveOn_frPhase (rest : List Move) : (s.moveOn rest).frPhase = s.frPhase := rfl
@[simp] theorem moveOn_pktCrc (rest : List Move) : (s.moveOn rest).pktCrc = s.pktCrc := rfl
@[simp] theorem moveOn_pktLen (rest : List Move) : (s.moveOn rest).pktLen = s.pktLen := rfl
@[simp] theorem moveOn_pktBuf (rest : List Move) : (s.moveOn rest).pktBuf = s.pktBuf := rfl
@[simp] theorem moveOn_rxq (rest : List Move) : (s.moveOn rest).rxq = s.rxq := rfl
@[simp] theorem moveOn_txq (rest : List Move) : (s.moveOn rest).txq = s.txq := rfl
@[simp] theorem moveOn_planeCur (rest : List Move) : (s.moveOn rest).planeCur = s.planeCur := rfl
@[simp] theorem moveOn_planePrev (rest : List Move) : (s.moveOn rest).planePrev = s.planePrev := rfl
@[simp] theorem moveOn_planePers (rest : List Move) : (s.moveOn rest).planePers = s.planePers := rfl
@[simp] theorem moveOn_response (rest : List Move) : (s.moveOn rest).response = s.response := rfl
@[simp] theorem moveOn_agenda (rest : List Move) : (s.moveOn rest).agenda = rest := rfl
@[simp] theorem moveOn_pixel (rest : List Move) (pl : PlaneId) (c : Pixel) : (s.moveOn rest).pixel pl c = s.pixel pl c := by
  cases pl <;> rfl

/-! ### accept -/

@[simp] theorem accept_params (rest : List Move) : (s.accept rest).params = s.params := rfl
@[simp] theorem accept_crcReg (rest : List Move) : (s.accept rest).crcReg = s.crcReg := rfl
@[simp] theorem accept_err (rest : List Move) : (s.accept rest).err = s.err := rfl
@[simp] theorem accept_lastResult (rest : List Move) : (s.accept rest).lastResult = s.lastResult := rfl
@[simp] theorem accept_busy (rest : List Move) : (s.accept rest).busy = true := rfl
@[simp] theorem accept_clk (rest : List Move) : (s.accept rest).clk = s.clk := rfl
@[simp] theorem accept_sessionState (rest : List Move) : (s.accept rest).sessionState = s.sessionState := rfl
@[simp] theorem accept_sessionType (rest : List Move) : (s.accept rest).sessionType = s.sessionType := rfl
@[simp] theorem accept_pktCount (rest : List Move) : (s.accept rest).pktCount = s.pktCount := rfl
@[simp] theorem accept_pktIndex (rest : List Move) : (s.accept rest).pktIndex = s.pktIndex := rfl
@[simp] theorem accept_msg (rest : List Move) : (s.accept rest).msg = s.msg := rfl
@[simp] theorem accept_msgLen (rest : List Move) : (s.accept rest).msgLen = s.msgLen := rfl
@[simp] theorem accept_geom0 (rest : List Move) : (s.accept rest).geom0 = s.geom0 := rfl
@[simp] theorem accept_frPhase (rest : List Move) : (s.accept rest).frPhase = s.frPhase := rfl
@[simp] theorem accept_pktCrc (rest : List Move) : (s.accept rest).pktCrc = s.pktCrc := rfl
@[simp] theorem accept_pktLen (rest : List Move) : (s.accept rest).pktLen = s.pktLen := rfl
@[simp] theorem accept_pktBuf (rest : List Move) : (s.accept rest).pktBuf = s.pktBuf := rfl
@[simp] theorem accept_rxq (rest : List Move) : (s.accept rest).rxq = s.rxq := rfl
@[simp] theorem accept_txq (rest : List Move) : (s.accept rest).txq = s.txq := rfl
@[simp] theorem accept_planeCur (rest : List Move) : (s.accept rest).planeCur = s.planeCur := rfl
@[simp] theorem accept_planePrev (rest : List Move) : (s.accept rest).planePrev = s.planePrev := rfl
@[simp] theorem accept_planePers (rest : List Move) : (s.accept rest).planePers = s.planePers := rfl
@[simp] theorem accept_response (rest : List Move) : (s.accept rest).response = none := rfl
@[simp] theorem accept_agenda (rest : List Move) : (s.accept rest).agenda = rest := rfl
@[simp] theorem accept_pixel (rest : List Move) (pl : PlaneId) (c : Pixel) : (s.accept rest).pixel pl c = s.pixel pl c := by
  cases pl <;> rfl

/-! ### abort -/

@[simp] theorem abort_params : (s.abort).params = s.params := rfl
@[simp] theorem abort_crcReg : (s.abort).crcReg = s.crcReg := rfl
@[simp] theorem abort_err : (s.abort).err = s.err := rfl
@[simp] theorem abort_lastResult : (s.abort).lastResult = 0x05#8 := rfl
@[simp] theorem abort_busy : (s.abort).busy = s.busy := rfl
@[simp] theorem abort_clk : (s.abort).clk = s.clk := rfl
@[simp] theorem abort_sessionState : (s.abort).sessionState = .aborted := rfl
@[simp] theorem abort_sessionType : (s.abort).sessionType = 0x00#8 := rfl
@[simp] theorem abort_pktCount : (s.abort).pktCount = 0#16 := rfl
@[simp] theorem abort_pktIndex : (s.abort).pktIndex = 0#16 := rfl
@[simp] theorem abort_msg : (s.abort).msg = s.msg := rfl
@[simp] theorem abort_msgLen : (s.abort).msgLen = 0#25 := rfl
@[simp] theorem abort_geom0 : (s.abort).geom0 = s.geom0 := rfl
@[simp] theorem abort_frPhase : (s.abort).frPhase = .none := rfl
@[simp] theorem abort_pktCrc : (s.abort).pktCrc = s.pktCrc := rfl
@[simp] theorem abort_pktLen : (s.abort).pktLen = s.pktLen := rfl
@[simp] theorem abort_pktBuf : (s.abort).pktBuf = s.pktBuf := rfl
@[simp] theorem abort_rxq : (s.abort).rxq = s.rxq := rfl
@[simp] theorem abort_txq : (s.abort).txq = s.txq ++ [0x05#8] := rfl
@[simp] theorem abort_planeCur : (s.abort).planeCur = s.planeCur := rfl
@[simp] theorem abort_planePrev : (s.abort).planePrev = s.planePrev := rfl
@[simp] theorem abort_planePers : (s.abort).planePers = s.planePers := rfl
@[simp] theorem abort_response : (s.abort).response = s.response := rfl
@[simp] theorem abort_agenda : (s.abort).agenda = s.agenda := rfl
@[simp] theorem abort_pixel (pl : PlaneId) (c : Pixel) : (s.abort).pixel pl c = s.pixel pl c := by
  cases pl <;> rfl

/-! ### appendRecord -/

@[simp] theorem appendRecord_params (r : List Byte) : (s.appendRecord r).params = s.params := rfl
@[simp] theorem appendRecord_crcReg (r : List Byte) : (s.appendRecord r).crcReg = s.crcReg := rfl
@[simp] theorem appendRecord_err (r : List Byte) : (s.appendRecord r).err = s.err := rfl
@[simp] theorem appendRecord_lastResult (r : List Byte) : (s.appendRecord r).lastResult = s.lastResult := rfl
@[simp] theorem appendRecord_busy (r : List Byte) : (s.appendRecord r).busy = s.busy := rfl
@[simp] theorem appendRecord_clk (r : List Byte) : (s.appendRecord r).clk = s.clk := rfl
@[simp] theorem appendRecord_sessionState (r : List Byte) : (s.appendRecord r).sessionState = s.sessionState := rfl
@[simp] theorem appendRecord_sessionType (r : List Byte) : (s.appendRecord r).sessionType = s.sessionType := rfl
@[simp] theorem appendRecord_pktCount (r : List Byte) : (s.appendRecord r).pktCount = s.pktCount := rfl
@[simp] theorem appendRecord_pktIndex (r : List Byte) : (s.appendRecord r).pktIndex = s.pktIndex := rfl
@[simp] theorem appendRecord_msg (r : List Byte) : (s.appendRecord r).msg = s.msg.writeBytes s.msgLen.toNat r := rfl
@[simp] theorem appendRecord_msgLen (r : List Byte) : (s.appendRecord r).msgLen = s.msgLen + BitVec.ofNat 25 r.length := rfl
@[simp] theorem appendRecord_geom0 (r : List Byte) : (s.appendRecord r).geom0 = s.geom0 := rfl
@[simp] theorem appendRecord_frPhase (r : List Byte) : (s.appendRecord r).frPhase = s.frPhase := rfl
@[simp] theorem appendRecord_pktCrc (r : List Byte) : (s.appendRecord r).pktCrc = s.pktCrc := rfl
@[simp] theorem appendRecord_pktLen (r : List Byte) : (s.appendRecord r).pktLen = s.pktLen := rfl
@[simp] theorem appendRecord_pktBuf (r : List Byte) : (s.appendRecord r).pktBuf = s.pktBuf := rfl
@[simp] theorem appendRecord_rxq (r : List Byte) : (s.appendRecord r).rxq = s.rxq := rfl
@[simp] theorem appendRecord_txq (r : List Byte) : (s.appendRecord r).txq = s.txq := rfl
@[simp] theorem appendRecord_planeCur (r : List Byte) : (s.appendRecord r).planeCur = s.planeCur := rfl
@[simp] theorem appendRecord_planePrev (r : List Byte) : (s.appendRecord r).planePrev = s.planePrev := rfl
@[simp] theorem appendRecord_planePers (r : List Byte) : (s.appendRecord r).planePers = s.planePers := rfl
@[simp] theorem appendRecord_response (r : List Byte) : (s.appendRecord r).response = s.response := rfl
@[simp] theorem appendRecord_agenda (r : List Byte) : (s.appendRecord r).agenda = s.agenda := rfl
@[simp] theorem appendRecord_pixel (r : List Byte) (pl : PlaneId) (c : Pixel) : (s.appendRecord r).pixel pl c = s.pixel pl c := by
  cases pl <;> rfl

/-! ### countPacket -/

@[simp] theorem countPacket_params : (s.countPacket).params = s.params := rfl
@[simp] theorem countPacket_crcReg : (s.countPacket).crcReg = s.crcReg := rfl
@[simp] theorem countPacket_err : (s.countPacket).err = s.err := rfl
@[simp] theorem countPacket_lastResult : (s.countPacket).lastResult = s.lastResult := rfl
@[simp] theorem countPacket_busy : (s.countPacket).busy = s.busy := rfl
@[simp] theorem countPacket_clk : (s.countPacket).clk = s.clk := rfl
@[simp] theorem countPacket_sessionState : (s.countPacket).sessionState = s.sessionState := rfl
@[simp] theorem countPacket_sessionType : (s.countPacket).sessionType = s.sessionType := rfl
@[simp] theorem countPacket_pktCount : (s.countPacket).pktCount = s.pktCount := rfl
@[simp] theorem countPacket_pktIndex : (s.countPacket).pktIndex = s.pktIndex + 1#16 := rfl
@[simp] theorem countPacket_msg : (s.countPacket).msg = s.msg := rfl
@[simp] theorem countPacket_msgLen : (s.countPacket).msgLen = s.msgLen := rfl
@[simp] theorem countPacket_geom0 : (s.countPacket).geom0 = s.geom0 := rfl
@[simp] theorem countPacket_frPhase : (s.countPacket).frPhase = s.frPhase := rfl
@[simp] theorem countPacket_pktCrc : (s.countPacket).pktCrc = s.pktCrc := rfl
@[simp] theorem countPacket_pktLen : (s.countPacket).pktLen = s.pktLen := rfl
@[simp] theorem countPacket_pktBuf : (s.countPacket).pktBuf = s.pktBuf := rfl
@[simp] theorem countPacket_rxq : (s.countPacket).rxq = s.rxq := rfl
@[simp] theorem countPacket_txq : (s.countPacket).txq = s.txq := rfl
@[simp] theorem countPacket_planeCur : (s.countPacket).planeCur = s.planeCur := rfl
@[simp] theorem countPacket_planePrev : (s.countPacket).planePrev = s.planePrev := rfl
@[simp] theorem countPacket_planePers : (s.countPacket).planePers = s.planePers := rfl
@[simp] theorem countPacket_response : (s.countPacket).response = s.response := rfl
@[simp] theorem countPacket_agenda : (s.countPacket).agenda = s.agenda := rfl
@[simp] theorem countPacket_pixel (pl : PlaneId) (c : Pixel) : (s.countPacket).pixel pl c = s.pixel pl c := by
  cases pl <;> rfl

/-! ### writePixel -/

@[simp] theorem writePixel_params (pl : PlaneId) (c : Pixel) (bit : Bool) : (s.writePixel pl c bit).params = s.params := by
  cases pl <;> rfl
@[simp] theorem writePixel_crcReg (pl : PlaneId) (c : Pixel) (bit : Bool) : (s.writePixel pl c bit).crcReg = s.crcReg := by
  cases pl <;> rfl
@[simp] theorem writePixel_err (pl : PlaneId) (c : Pixel) (bit : Bool) : (s.writePixel pl c bit).err = s.err := by
  cases pl <;> rfl
@[simp] theorem writePixel_lastResult (pl : PlaneId) (c : Pixel) (bit : Bool) : (s.writePixel pl c bit).lastResult = s.lastResult := by
  cases pl <;> rfl
@[simp] theorem writePixel_busy (pl : PlaneId) (c : Pixel) (bit : Bool) : (s.writePixel pl c bit).busy = s.busy := by
  cases pl <;> rfl
@[simp] theorem writePixel_clk (pl : PlaneId) (c : Pixel) (bit : Bool) : (s.writePixel pl c bit).clk = s.clk := by
  cases pl <;> rfl
@[simp] theorem writePixel_sessionState (pl : PlaneId) (c : Pixel) (bit : Bool) : (s.writePixel pl c bit).sessionState = s.sessionState := by
  cases pl <;> rfl
@[simp] theorem writePixel_sessionType (pl : PlaneId) (c : Pixel) (bit : Bool) : (s.writePixel pl c bit).sessionType = s.sessionType := by
  cases pl <;> rfl
@[simp] theorem writePixel_pktCount (pl : PlaneId) (c : Pixel) (bit : Bool) : (s.writePixel pl c bit).pktCount = s.pktCount := by
  cases pl <;> rfl
@[simp] theorem writePixel_pktIndex (pl : PlaneId) (c : Pixel) (bit : Bool) : (s.writePixel pl c bit).pktIndex = s.pktIndex := by
  cases pl <;> rfl
@[simp] theorem writePixel_msg (pl : PlaneId) (c : Pixel) (bit : Bool) : (s.writePixel pl c bit).msg = s.msg := by
  cases pl <;> rfl
@[simp] theorem writePixel_msgLen (pl : PlaneId) (c : Pixel) (bit : Bool) : (s.writePixel pl c bit).msgLen = s.msgLen := by
  cases pl <;> rfl
@[simp] theorem writePixel_geom0 (pl : PlaneId) (c : Pixel) (bit : Bool) : (s.writePixel pl c bit).geom0 = s.geom0 := by
  cases pl <;> rfl
@[simp] theorem writePixel_frPhase (pl : PlaneId) (c : Pixel) (bit : Bool) : (s.writePixel pl c bit).frPhase = s.frPhase := by
  cases pl <;> rfl
@[simp] theorem writePixel_pktCrc (pl : PlaneId) (c : Pixel) (bit : Bool) : (s.writePixel pl c bit).pktCrc = s.pktCrc := by
  cases pl <;> rfl
@[simp] theorem writePixel_pktLen (pl : PlaneId) (c : Pixel) (bit : Bool) : (s.writePixel pl c bit).pktLen = s.pktLen := by
  cases pl <;> rfl
@[simp] theorem writePixel_pktBuf (pl : PlaneId) (c : Pixel) (bit : Bool) : (s.writePixel pl c bit).pktBuf = s.pktBuf := by
  cases pl <;> rfl
@[simp] theorem writePixel_rxq (pl : PlaneId) (c : Pixel) (bit : Bool) : (s.writePixel pl c bit).rxq = s.rxq := by
  cases pl <;> rfl
@[simp] theorem writePixel_txq (pl : PlaneId) (c : Pixel) (bit : Bool) : (s.writePixel pl c bit).txq = s.txq := by
  cases pl <;> rfl
@[simp] theorem writePixel_response (pl : PlaneId) (c : Pixel) (bit : Bool) : (s.writePixel pl c bit).response = s.response := by
  cases pl <;> rfl
@[simp] theorem writePixel_agenda (pl : PlaneId) (c : Pixel) (bit : Bool) : (s.writePixel pl c bit).agenda = s.agenda := by
  cases pl <;> rfl

/-! ### clearCells -/

@[simp] theorem clearCells_params (p : Bool) (pick : Pixel → Bool) : (s.clearCells p pick).params = s.params := by
  cases p <;> rfl
@[simp] theorem clearCells_crcReg (p : Bool) (pick : Pixel → Bool) : (s.clearCells p pick).crcReg = s.crcReg := by
  cases p <;> rfl
@[simp] theorem clearCells_err (p : Bool) (pick : Pixel → Bool) : (s.clearCells p pick).err = s.err := by
  cases p <;> rfl
@[simp] theorem clearCells_lastResult (p : Bool) (pick : Pixel → Bool) : (s.clearCells p pick).lastResult = s.lastResult := by
  cases p <;> rfl
@[simp] theorem clearCells_busy (p : Bool) (pick : Pixel → Bool) : (s.clearCells p pick).busy = s.busy := by
  cases p <;> rfl
@[simp] theorem clearCells_clk (p : Bool) (pick : Pixel → Bool) : (s.clearCells p pick).clk = s.clk := by
  cases p <;> rfl
@[simp] theorem clearCells_sessionState (p : Bool) (pick : Pixel → Bool) : (s.clearCells p pick).sessionState = s.sessionState := by
  cases p <;> rfl
@[simp] theorem clearCells_sessionType (p : Bool) (pick : Pixel → Bool) : (s.clearCells p pick).sessionType = s.sessionType := by
  cases p <;> rfl
@[simp] theorem clearCells_pktCount (p : Bool) (pick : Pixel → Bool) : (s.clearCells p pick).pktCount = s.pktCount := by
  cases p <;> rfl
@[simp] theorem clearCells_pktIndex (p : Bool) (pick : Pixel → Bool) : (s.clearCells p pick).pktIndex = s.pktIndex := by
  cases p <;> rfl
@[simp] theorem clearCells_msg (p : Bool) (pick : Pixel → Bool) : (s.clearCells p pick).msg = s.msg := by
  cases p <;> rfl
@[simp] theorem clearCells_msgLen (p : Bool) (pick : Pixel → Bool) : (s.clearCells p pick).msgLen = s.msgLen := by
  cases p <;> rfl
@[simp] theorem clearCells_geom0 (p : Bool) (pick : Pixel → Bool) : (s.clearCells p pick).geom0 = s.geom0 := by
  cases p <;> rfl
@[simp] theorem clearCells_frPhase (p : Bool) (pick : Pixel → Bool) : (s.clearCells p pick).frPhase = s.frPhase := by
  cases p <;> rfl
@[simp] theorem clearCells_pktCrc (p : Bool) (pick : Pixel → Bool) : (s.clearCells p pick).pktCrc = s.pktCrc := by
  cases p <;> rfl
@[simp] theorem clearCells_pktLen (p : Bool) (pick : Pixel → Bool) : (s.clearCells p pick).pktLen = s.pktLen := by
  cases p <;> rfl
@[simp] theorem clearCells_pktBuf (p : Bool) (pick : Pixel → Bool) : (s.clearCells p pick).pktBuf = s.pktBuf := by
  cases p <;> rfl
@[simp] theorem clearCells_rxq (p : Bool) (pick : Pixel → Bool) : (s.clearCells p pick).rxq = s.rxq := by
  cases p <;> rfl
@[simp] theorem clearCells_txq (p : Bool) (pick : Pixel → Bool) : (s.clearCells p pick).txq = s.txq := by
  cases p <;> rfl
@[simp] theorem clearCells_planePrev (p : Bool) (pick : Pixel → Bool) : (s.clearCells p pick).planePrev = s.planePrev := by
  cases p <;> rfl
@[simp] theorem clearCells_response (p : Bool) (pick : Pixel → Bool) : (s.clearCells p pick).response = s.response := by
  cases p <;> rfl
@[simp] theorem clearCells_agenda (p : Bool) (pick : Pixel → Bool) : (s.clearCells p pick).agenda = s.agenda := by
  cases p <;> rfl

end Sys2Proof.Laws
end

