-- ==== Sys2Proof/Laws/Ops.lean ====
section
/-! SUPPORT. The shared operations, one lemma each that says all it does: raising a port error, a read of
the receive stream, a little-endian field, a byte of the byte-row view, a cell in bounds. -/

namespace Sys2Proof.Laws

open Sys2Proof.Machine

/-- Raising a port error sets its bit of ERR, responds with its code and changes nothing else. -/
theorem raise_eq (s : State) (e : PortError) :
    s.raise e = { s with
      err := (s.err ||| e.errBit) &&& 0x03#8, response := some ⟨e.code, 0#32⟩, busy := false } := by
  have h : ∀ a b : Byte, (a &&& 0x03#8 ||| b) &&& 0x03#8 = (a ||| b) &&& 0x03#8 := by
    intro a b
    apply BitVec.eq_of_getLsbD_eq
    intro i _
    simp only [BitVec.getLsbD_and, BitVec.getLsbD_or]
    cases a.getLsbD i <;> cases b.getLsbD i <;> cases (0x03#8).getLsbD i <;> rfl
  simp [State.raise, State.respond, State.writeErr, State.readErr, h]

/-- A read of the receive stream takes bytes from the front of RXQ, as many as were asked for or all. -/
theorem rxRead_eq (s : State) (n : Nat) :
    s.rxRead n = (s.rxq.take n, { s with rxq := s.rxq.drop n }) := rfl

/-- What a read took and what it left are RXQ as it was. -/
theorem rxRead_append (s : State) (n : Nat) : (s.rxRead n).1 ++ (s.rxRead n).2.rxq = s.rxq :=
  List.take_append_drop n s.rxq

/-- The little-endian field at an offset reads the two wire bytes of a u16 back. -/
theorem u16le_u16Bytes (front rest : List Byte) (v : Half) :
    u16le (front ++ (u16Bytes v ++ rest)) front.length = v := by
  have h0 : byteAt (front ++ (u16Bytes v ++ rest)) front.length = v.setWidth 8 := by
    simp [byteAt, u16Bytes]
  have h1 : byteAt (front ++ (u16Bytes v ++ rest)) (front.length + 1) = (v >>> 8).setWidth 8 := by
    simp [byteAt, u16Bytes]
  rw [u16le, h0, h1]
  apply BitVec.eq_of_getLsbD_eq
  intro i hi
  rw [BitVec.getLsbD_append]
  split
  · rename_i h8; rw [BitVec.getLsbD_setWidth]; simp [h8]
  · rename_i h8
    rw [BitVec.getLsbD_setWidth, BitVec.getLsbD_ushiftRight, show 8 + (i - 8) = i by omega]
    simp [show i - 8 < 8 by omega]

/-- A little-endian field as a number. -/
theorem u16le_toNat (s : List Byte) (i : Nat) :
    (u16le s i).toNat = (byteAt s i).toNat + 256 * (byteAt s (i + 1)).toNat := by
  rw [u16le, BitVec.toNat_append, ← Nat.shiftLeft_add_eq_or_of_lt (byteAt s i).isLt,
    Nat.shiftLeft_eq]
  omega

/-- Bit 7 - i of a byte of the byte-row view is its pixel i. -/
theorem rowByte_bit (s : State) (pl : PlaneId) (xb y i : Nat) (h : i < 8) :
    (s.rowByte pl xb y).getLsbD (7 - i) = s.rowBit pl xb y i := by
  have key : ∀ a b c d e f g k : Bool, ∀ j : Fin 8,
      (BitVec.ofBool a ++ BitVec.ofBool b ++ BitVec.ofBool c ++ BitVec.ofBool d ++
        BitVec.ofBool e ++ BitVec.ofBool f ++ BitVec.ofBool g ++ BitVec.ofBool k).getLsbD
          (7 - j) = [a, b, c, d, e, f, g, k].getD j false := by decide +kernel
  unfold State.rowByte
  rw [key _ _ _ _ _ _ _ _ ⟨i, h⟩]
  interval_cases i <;> rfl

/-- The one cell that in-bounds coordinates name. -/
theorem eq_pixelAt {p : Params} {x y : Int} (h : InB p x y) (c : Pixel) :
    c = pixelAt x y ↔ (c.x : Int) = x ∧ (c.y : Int) = y := by
  obtain ⟨cx, cy⟩ := c
  simp only [pixelAt, Pixel.mk.injEq]
  omega

/-- A cell is on the screen when its coordinates are in bounds. -/
theorem onScreen_iff (p : Params) (c : Pixel) : onScreen p c = true ↔ InB p c.x c.y := by
  simp [onScreen, InB]

/-- The cells of a region. -/
theorem inRegion_iff (p : Params) (x y : Int) (wd ht : Nat) (c : Pixel) :
    inRegion p x y wd ht c = true ↔
      (x ≤ c.x ∧ (c.x : Int) < x + wd) ∧ (y ≤ c.y ∧ (c.y : Int) < y + ht) ∧ InB p c.x c.y := by
  simp only [inRegion, Bool.and_eq_true, decide_eq_true_eq, onScreen_iff, and_assoc]

/-- A record is no longer than its payload. -/
theorem length_recordOf (t : Byte) (s : List Byte) : (recordOf t s).length ≤ s.length := by
  unfold recordOf; split <;> simp

end Sys2Proof.Laws
end

