-- ==== Sys2Proof/Laws/PerInstr.lean ====
section
/-! SUPPORT. Statements for every command, one lemma per constructor of Instr. -/

namespace Sys2Proof.Laws

/-- The opcode field of a sum of fields is the lowest of them. -/
theorem fieldOp_append (hi : BitVec 56) (op : Byte) : fieldOp (hi ++ op) = op := by
  unfold fieldOp
  apply BitVec.eq_of_getLsbD_eq
  intro i h8
  simp only [BitVec.getLsbD_extractLsb', Nat.zero_add, h8, decide_true, Bool.true_and]
  rw [BitVec.getLsbD_append, if_pos h8]

/-- The word of a command carries its opcode in bits 7:0 (30_encoding.md rule R90). -/
def EncodedOpcode.Statement (i : Instr) : Prop := fieldOp (encode i) = i.opcode

theorem EncodedOpcode.nop : EncodedOpcode.Statement (.nop) :=
  fieldOp_append _ _

theorem EncodedOpcode.crcInit : EncodedOpcode.Statement (.crcInit) :=
  fieldOp_append _ _

theorem EncodedOpcode.crcUpdate (d8 : Byte) : EncodedOpcode.Statement (.crcUpdate d8) :=
  fieldOp_append _ _

theorem EncodedOpcode.crcRead : EncodedOpcode.Statement (.crcRead) :=
  fieldOp_append _ _

theorem EncodedOpcode.frTryHeader : EncodedOpcode.Statement (.frTryHeader) :=
  fieldOp_append _ _

theorem EncodedOpcode.frReadMessage : EncodedOpcode.Statement (.frReadMessage) :=
  fieldOp_append _ _

theorem EncodedOpcode.frFlush : EncodedOpcode.Statement (.frFlush) :=
  fieldOp_append _ _

theorem EncodedOpcode.frCurrent : EncodedOpcode.Statement (.frCurrent) :=
  fieldOp_append _ _

theorem EncodedOpcode.frStatus : EncodedOpcode.Statement (.frStatus) :=
  fieldOp_append _ _

theorem EncodedOpcode.frPkt : EncodedOpcode.Statement (.frPkt) :=
  fieldOp_append _ _

theorem EncodedOpcode.frMsgLen : EncodedOpcode.Statement (.frMsgLen) :=
  fieldOp_append _ _

theorem EncodedOpcode.frMsgRead (addr : Nat) : EncodedOpcode.Statement (.frMsgRead addr) :=
  fieldOp_append _ _

theorem EncodedOpcode.fbSet (pl : PlaneId) (x y : Int) : EncodedOpcode.Statement (.fbSet pl x y) :=
  fieldOp_append _ _

theorem EncodedOpcode.fbUnset (pl : PlaneId) (x y : Int) : EncodedOpcode.Statement (.fbUnset pl x y) :=
  fieldOp_append _ _

theorem EncodedOpcode.fbIsSet (pl : PlaneId) (x y : Int) : EncodedOpcode.Statement (.fbIsSet pl x y) :=
  fieldOp_append _ _

theorem EncodedOpcode.fbClear (p : Bool) : EncodedOpcode.Statement (.fbClear p) :=
  fieldOp_append _ _

theorem EncodedOpcode.fbClearRegion (p : Bool) (x y : Int) (wd ht : Nat) : EncodedOpcode.Statement (.fbClearRegion p x y wd ht) :=
  fieldOp_append _ _

theorem EncodedOpcode.fbAdvance (x y : Int) : EncodedOpcode.Statement (.fbAdvance x y) :=
  fieldOp_append _ _

theorem EncodedOpcode.fbAdvanceAll : EncodedOpcode.Statement (.fbAdvanceAll) :=
  fieldOp_append _ _

theorem EncodedOpcode.fbIsDirty (x y : Int) : EncodedOpcode.Statement (.fbIsDirty x y) :=
  fieldOp_append _ _

theorem EncodedOpcode.fbDirtyCount : EncodedOpcode.Statement (.fbDirtyCount) :=
  fieldOp_append _ _

theorem EncodedOpcode.fbReadRow8 (pl : PlaneId) (xb y : Int) : EncodedOpcode.Statement (.fbReadRow8 pl xb y) :=
  fieldOp_append _ _

theorem EncodedOpcode.fbGeometry : EncodedOpcode.Statement (.fbGeometry) :=
  fieldOp_append _ _

theorem EncodedOpcode.errRead : EncodedOpcode.Statement (.errRead) :=
  fieldOp_append _ _

theorem EncodedOpcode.errClear (d8 : Byte) : EncodedOpcode.Statement (.errClear d8) :=
  fieldOp_append _ _

end Sys2Proof.Laws
end

