-- ==== Sys2Proof/Laws/Planes.lean ====
section
/-! SUPPORT. The planes: what each operation leaves of every bit, and that each keeps the canonical
form. -/

namespace Sys2Proof.Laws

open Sys2Proof.Machine

theorem mem_setBit (c d : Pixel) (p : PixelPlane) : d ∈ p.setBit c ↔ d = c ∨ d ∈ p := by
  induction p with
  | nil => simp [PixelPlane.setBit]
  | cons e p ih =>
    simp only [PixelPlane.setBit]
    split
    · rename_i h; subst h; simp
    · split
      · simp
      · simp only [List.mem_cons, ih]; tauto

theorem mem_clearIf (pick : Pixel → Bool) (d : Pixel) (p : PixelPlane) :
    d ∈ p.clearIf pick ↔ d ∈ p ∧ pick d = false := by
  simp [PixelPlane.clearIf]

/-- The bit of a cell after one cell's bit is set. -/
@[simp] theorem lit_setBit (c d : Pixel) (p : PixelPlane) :
    (p.setBit c).lit d = (decide (d = c) || p.lit d) := by
  simp [PixelPlane.lit, mem_setBit]

/-- The bit of a cell after the picked cells are cleared. -/
@[simp] theorem lit_clearIf (pick : Pixel → Bool) (d : Pixel) (p : PixelPlane) :
    (p.clearIf pick).lit d = (p.lit d && !pick d) := by
  simp [PixelPlane.lit, mem_clearIf]

/-- The bit of a cell after one cell's bit is cleared. -/
@[simp] theorem lit_clearBit (c d : Pixel) (p : PixelPlane) :
    (p.clearBit c).lit d = (p.lit d && !decide (d = c)) := by
  simp [PixelPlane.clearBit]

/-- The bit of a cell after one cell's bit is given a value. -/
theorem lit_writeBit (c d : Pixel) (bit : Bool) (p : PixelPlane) :
    (p.writeBit c bit).lit d = if d = c then bit else p.lit d := by
  cases bit <;> by_cases h : d = c <;> simp [PixelPlane.writeBit, h]

/-- The canonical form of a plane, unfolded once. -/
theorem planeWf_cons (c : Pixel) (p : PixelPlane) :
    PixelPlane.wf (c :: p) = true ↔ (∀ d ∈ p, c.before d = true) ∧ p.wf = true := by
  simp [PixelPlane.wf]

theorem before_trans {c d e : Pixel} (h1 : c.before d = true) (h2 : d.before e = true) :
    c.before e = true := by
  simp only [Pixel.before, decide_eq_true_eq] at *; omega

theorem before_of_not {c d : Pixel} (hne : c ≠ d) (h : c.before d = false) : d.before c = true := by
  obtain ⟨cx, cy⟩ := c
  obtain ⟨dx, dy⟩ := d
  simp only [Pixel.before, decide_eq_true_eq, decide_eq_false_iff_not, ne_eq, Pixel.mk.injEq] at *
  omega

/-- Setting a bit keeps the canonical form. -/
theorem planeWf_setBit (c : Pixel) (p : PixelPlane) (h : p.wf = true) : (p.setBit c).wf = true := by
  induction p with
  | nil => rfl
  | cons e p ih =>
    obtain ⟨hlt, hp⟩ := (planeWf_cons _ _).1 h
    simp only [PixelPlane.setBit]
    split
    · exact h
    · rename_i hne
      split
      · rename_i hb
        refine (planeWf_cons _ _).2 ⟨fun d hd => ?_, h⟩
        rcases List.mem_cons.1 hd with rfl | hd
        · exact hb
        · exact before_trans hb (hlt d hd)
      · rename_i hb
        refine (planeWf_cons _ _).2 ⟨fun d hd => ?_, ih hp⟩
        rcases (mem_setBit _ _ _).1 hd with rfl | hd
        · exact before_of_not hne (by simpa using hb)
        · exact hlt d hd

/-- Clearing bits keeps the canonical form. -/
theorem planeWf_clearIf (pick : Pixel → Bool) (p : PixelPlane) (h : p.wf = true) :
    (p.clearIf pick).wf = true := by
  induction p with
  | nil => rfl
  | cons e p ih =>
    obtain ⟨hlt, hp⟩ := (planeWf_cons _ _).1 h
    have ih := ih hp
    unfold PixelPlane.clearIf at *
    rw [List.filter_cons]
    split
    · exact (planeWf_cons _ _).2 ⟨fun d hd => hlt d (List.mem_filter.1 hd).1, ih⟩
    · exact ih

/-- Giving a bit a value keeps the canonical form. -/
theorem planeWf_writeBit (c : Pixel) (bit : Bool) (p : PixelPlane) (h : p.wf = true) :
    (p.writeBit c bit).wf = true := by
  cases bit
  · exact planeWf_clearIf _ p h
  · exact planeWf_setBit c p h

/-- A cell that is listed after one cell's bit is given a value is that cell or was listed. -/
theorem mem_writeBit {c d : Pixel} {bit : Bool} {p : PixelPlane} (h : d ∈ p.writeBit c bit) :
    d = c ∨ d ∈ p := by
  cases bit
  · exact .inr ((mem_clearIf _ _ _).1 h).1
  · exact (mem_setBit c d p).1 h

/-- Every bit of every plane after one bit is written. -/
theorem pixel_writePixel (s : State) (pl q : PlaneId) (c d : Pixel) (bit : Bool) :
    (s.writePixel pl c bit).pixel q d = if q = pl ∧ d = c then bit else s.pixel q d := by
  cases pl <;> cases q <;>
    simp [State.writePixel, State.withPlane, State.pixel, State.plane, lit_writeBit]

/-- Every bit of every plane after a clear. -/
theorem pixel_clearCells (s : State) (p : Bool) (pick : Pixel → Bool) (q : PlaneId) (d : Pixel) :
    (s.clearCells p pick).pixel q d =
      match q with
      | .prev => s.pixel .prev d
      | .pers => s.pixel .pers d && !(p && pick d)
      | .cur => s.pixel .cur d && !(pick d && (p || !s.pixel .pers d)) := by
  cases p <;> cases q <;>
    simp [State.clearCells, State.pixel, State.plane]

/-- The cell of in-bounds coordinates is on the screen. -/
theorem onScreen_pixelAt {p : Params} {x y : Int} (h : InB p x y) :
    onScreen p (pixelAt x y) = true := by
  have hx : x.toNat < p.fbW := by omega
  have hy : y.toNat < p.fbH := by omega
  simp [onScreen, pixelAt, hx, hy]

/-- The cells of the screen are those that `onScreen` picks. -/
theorem mem_screenCells (p : Params) (c : Pixel) : c ∈ screenCells p ↔ onScreen p c = true := by
  obtain ⟨x, y⟩ := c
  simp [screenCells, onScreen, and_comm]

end Sys2Proof.Laws
end

