-- ==== Sys2Proof/Laws/Step.lean ====
section
/-! SUPPORT. What a step can do, said once: the moves of the agents, the packet loop's steps, reading a
header, a commit. Later proofs cite these and unfold nothing. -/

namespace Sys2Proof.Laws

open Sys2Proof.Machine

/-- A run goes on from the state its first step answers. -/
theorem run_succ {s t : State} (k : Nat) (h : step s = .next t) :
    Host.Core.run Sys2Proof.core (k + 1) s = Host.Core.run Sys2Proof.core k t := by
  have key : ∀ (M : Host.Core) (s t : M.State), M.step s = .next t → M.run (k + 1) s = M.run k t := by
    intro M s t h; simp only [Host.Core.run, h]
  exact key Sys2Proof.core s t h

/-- A run of no step. -/
theorem run_zero (s : State) : Host.Core.run Sys2Proof.core 0 s = .next s := rfl

/-- With nothing on the agenda a step is the block's own. -/
theorem step_of_agenda_nil {s : State} (h : s.agenda = []) : step s = .next (blockStep s) := by
  simp [step, h]

/-- Everything a step that answers a next state can have done. -/
theorem step_cases {s t : State} (h : step s = .next t) :
    (s.agenda = [] ∧ t = blockStep s) ∨
    (∃ w rest, s.agenda = .command w :: rest ∧ s.busy = true ∧ t = blockStep s) ∨
    (∃ w rest i, s.agenda = .command w :: rest ∧ s.busy = false ∧ decode w = .instr i ∧
      exec i (s.accept rest) = .next t) ∨
    (∃ w rest why, s.agenda = .command w :: rest ∧ s.busy = false ∧ decode w = .illegal why ∧
      t = (s.accept rest).raise .illegal) ∨
    (∃ b rest, s.agenda = .receive b :: rest ∧ t = (s.moveOn rest).appendRx b) ∨
    (∃ rest, s.agenda = .deliver :: rest ∧ t = (s.moveOn rest).deliverTx) ∨
    (∃ rest, s.agenda = .tick :: rest ∧ t = (s.moveOn rest).tickClk) ∨
    (∃ rest, s.agenda = .block :: rest ∧ t = blockStep (s.moveOn rest)) ∨
    (∃ rest, s.agenda = .reset :: rest ∧ t = (s.moveOn rest).resetBlock) := by
  unfold step at h
  split at h <;> rename_i hag
  · injection h with h; exact .inl ⟨hag, h.symm⟩
  · split at h <;> rename_i hb
    · injection h with h; exact .inr (.inl ⟨_, _, hag, hb, h.symm⟩)
    · have hb : s.busy = false := by simpa using hb
      unfold runWord at h
      split at h <;> rename_i hd
      · exact .inr (.inr (.inl ⟨_, _, _, hag, hb, hd, h⟩))
      · injection h with h
        exact .inr (.inr (.inr (.inl ⟨_, _, _, hag, hb, hd, h.symm⟩)))
  · injection h with h; exact .inr (.inr (.inr (.inr (.inl ⟨_, _, hag, h.symm⟩))))
  · injection h with h; exact .inr (.inr (.inr (.inr (.inr (.inl ⟨_, hag, h.symm⟩)))))
  · injection h with h; exact .inr (.inr (.inr (.inr (.inr (.inr (.inl ⟨_, hag, h.symm⟩))))))
  · injection h with h
    exact .inr (.inr (.inr (.inr (.inr (.inr (.inr (.inl ⟨_, hag, h.symm⟩)))))))
  · injection h with h
    exact .inr (.inr (.inr (.inr (.inr (.inr (.inr (.inr ⟨_, hag, h.symm⟩)))))))

/-- The block's own step: nothing outside PAYLOAD_READ, one step of the packet loop in it. -/
theorem blockStep_cases (s : State) :
    (s.sessionState ≠ .payloadRead ∧ blockStep s = s) ∨
    (s.sessionState = .payloadRead ∧ blockStep s = loopStep s) := by
  unfold blockStep
  by_cases h : s.sessionState = .payloadRead <;> simp [h]

/-- Everything one step of the packet loop can do. -/
theorem loopStep_cases (s : State) :
    (s.frPhase = .none ∧ loopStep s = s) ∨
    (s.frPhase = .readPrefix ∧ s.rxq.length < 4 ∧
      loopStep s = { s with rxq := [] }.abortAndRespond) ∨
    (s.frPhase = .readPrefix ∧ 4 ≤ s.rxq.length ∧
      loopStep s = { s with rxq := s.rxq.drop 4, pktCrc := u16le (s.rxq.take 4) 0,
                            pktLen := u16le (s.rxq.take 4) 2, frPhase := .readPayload }) ∨
    (s.frPhase = .readPayload ∧ s.rxq.length < s.pktLen.toNat ∧
      loopStep s = { s with rxq := [] }.abortAndRespond) ∨
    (s.frPhase = .readPayload ∧ s.pktLen.toNat ≤ s.rxq.length ∧
      loopStep s = { s with rxq := s.rxq.drop s.pktLen.toNat,
                            pktBuf := s.rxq.take s.pktLen.toNat, frPhase := .checkPacket }) ∨
    (s.frPhase = .checkPacket ∧ loopStep s = checkStep s) ∨
    (s.frPhase = .retryWait ∧ loopStep s = { s with frPhase := .readPrefix }) := by
  have hphase : s.frPhase = .none ∨ s.frPhase = .readPrefix ∨ s.frPhase = .readPayload ∨
      s.frPhase = .checkPacket ∨ s.frPhase = .retryWait := by cases s.frPhase <;> simp
  rcases hphase with hp | hp | hp | hp | hp
  · exact .inl ⟨hp, by unfold loopStep; rw [hp]⟩
  · have he : loopStep s = prefixStep (s.rxq.take 4) { s with rxq := s.rxq.drop 4 } := by
      unfold loopStep; rw [hp]; rfl
    rcases Nat.lt_or_ge s.rxq.length 4 with h | h
    · refine .inr (.inl ⟨hp, h, ?_⟩)
      rw [he, List.drop_eq_nil_of_le (by omega : s.rxq.length ≤ 4), prefixStep, if_pos]
      rw [List.length_take]; omega
    · refine .inr (.inr (.inl ⟨hp, h, ?_⟩))
      rw [he, prefixStep, if_neg]
      rw [List.length_take]; omega
  · have he : loopStep s = payloadStep (s.rxq.take s.pktLen.toNat)
        { s with rxq := s.rxq.drop s.pktLen.toNat } := by
      unfold loopStep; rw [hp]; rfl
    rcases Nat.lt_or_ge s.rxq.length s.pktLen.toNat with h | h
    · refine .inr (.inr (.inr (.inl ⟨hp, h, ?_⟩)))
      rw [he, List.drop_eq_nil_of_le h.le, payloadStep, if_pos]
      rw [List.length_take]; simp only; omega
    · refine .inr (.inr (.inr (.inr (.inl ⟨hp, h, ?_⟩))))
      rw [he, payloadStep, if_neg]
      rw [List.length_take]; simp only; omega
  · exact .inr (.inr (.inr (.inr (.inr (.inl ⟨hp, by unfold loopStep; rw [hp]⟩)))))
  · exact .inr (.inr (.inr (.inr (.inr (.inr ⟨hp, by unfold loopStep; rw [hp]⟩)))))

/-- Everything the step CHECK can do: retry, abort, or commit and go on. -/
theorem checkStep_cases (s : State) :
    (crc16 s.pktBuf ≠ s.pktCrc ∧ checkStep s = s.retryPacket) ∨
    (crc16 s.pktBuf = s.pktCrc ∧
      (validPacket s.geom0 s.sessionType s.pktBuf s.pktIndex = false ∨ s.recordFits = false) ∧
      checkStep s = s.abortAndRespond) ∨
    (crc16 s.pktBuf = s.pktCrc ∧
      validPacket s.geom0 s.sessionType s.pktBuf s.pktIndex = true ∧ s.recordFits = true ∧
      checkStep s = s.commit.afterCommit) := by
  unfold checkStep
  by_cases h1 : crc16 s.pktBuf = s.pktCrc
  · cases h2 : validPacket s.geom0 s.sessionType s.pktBuf s.pktIndex
    · simp [h1]
    · cases h3 : s.recordFits <;> simp [h1]
  · simp [h1]

/-- Everything FR_TRY_HEADER can do when no message is held. -/
theorem tryHeader_cases (s : State) :
    ((s.rxq = [] ∨ ∃ t rest, s.rxq = t :: rest ∧ s.rxq.length < headerLen t) ∧
      s.tryHeader = s.respond 0x00#8 0#32) ∨
    (∃ rest, s.rxq = 0x10#8 :: rest ∧ 3 ≤ s.rxq.length ∧ u16le s.rxq 1 = 0#16 ∧
      s.tryHeader = (s.consume 3).rejectHeader) ∨
    (∃ rest, s.rxq = 0x10#8 :: rest ∧ 3 ≤ s.rxq.length ∧ u16le s.rxq 1 ≠ 0#16 ∧
      s.tryHeader = (s.consume 3).openSession 0x10#8 (u16le s.rxq 1)) ∨
    (∃ t rest, s.rxq = t :: rest ∧ (t = 0x11#8 ∨ t = 0x12#8) ∧
      s.tryHeader = (s.consume 1).openSession t 1#16) ∨
    (∃ t rest, s.rxq = t :: rest ∧ t ≠ 0x10#8 ∧ t ≠ 0x11#8 ∧ t ≠ 0x12#8 ∧
      s.tryHeader = (s.consume 1).rejectHeader) := by
  unfold State.tryHeader
  split
  · rename_i h; exact .inl ⟨.inl h, rfl⟩
  · rename_i t rest h
    split
    · rename_i hl; exact .inl ⟨.inr ⟨t, rest, h, hl⟩, rfl⟩
    · rename_i hl
      split
      · rename_i ht
        have h3 : 3 ≤ s.rxq.length := by simpa [headerLen, ht] using hl
        subst ht
        split
        · rename_i hn; exact .inr (.inl ⟨rest, h, h3, hn, rfl⟩)
        · rename_i hn; exact .inr (.inr (.inl ⟨rest, h, h3, hn, rfl⟩))
      · rename_i ht
        split
        · rename_i h2; exact .inr (.inr (.inr (.inl ⟨t, rest, h, h2, rfl⟩)))
        · rename_i h2
          exact .inr (.inr (.inr (.inr ⟨t, rest, h, ht, fun h => h2 (.inl h), fun h => h2 (.inr h), rfl⟩)))

/-! ### Commit -/

theorem captureGeometry_fields (s : State) :
    s.captureGeometry = { s with geom0 := s.captureGeometry.geom0 } := by
  unfold State.captureGeometry; split <;> rfl

/-- A commit as one update of the state. -/
theorem commit_eq (s : State) :
    s.commit = { s with
      geom0 := s.captureGeometry.geom0,
      msg := s.msg.writeBytes s.msgLen.toNat (recordOf s.sessionType s.pktBuf),
      msgLen := s.msgLen + BitVec.ofNat 25 (recordOf s.sessionType s.pktBuf).length,
      txq := s.txq ++ [0x01#8], lastResult := 0x01#8, pktIndex := s.pktIndex + 1#16 } := by
  unfold State.commit
  rw [captureGeometry_fields]
  rfl

/-- What the message store holds after a commit: the record after what was there. -/
theorem read_commit (s : State) (a : Nat) :
    s.commit.msg.read a =
      if s.msgLen.toNat ≤ a ∧ a < s.msgLen.toNat + (recordOf s.sessionType s.pktBuf).length then
        byteAt (recordOf s.sessionType s.pktBuf) (a - s.msgLen.toNat)
      else s.msg.read a := by
  rw [commit_eq]; exact read_writeBytes _ _ _ _

end Sys2Proof.Laws
end

