-- ==== Sys2Proof/Machine/Assembler.lean ====
section
/-! DEFINITION. The assembler syntax of 30_encoding.md rule R111 and the pseudo-instructions of rule
R112: one statement a line, a mnemonic and operands separated by commas, a comment after `;`. What the
rules leave to a lexer (blanks, upper-case mnemonics, both cases of a hexadecimal digit) is the model's
(log entry 20). -/

namespace Sys2Proof.Machine

/-- The pseudo-instructions (rule R112). -/
inductive Pseudo where
  /-- FB_PLOT x, y. -/
  | fbPlot (x y : Int)
  /-- FB_ERASE x, y. -/
  | fbErase (x y : Int)
  /-- FB_CLEAR_ALL. -/
  | fbClearAll
  /-- FB_COMMIT. -/
  | fbCommit
  /-- CRC_BLOCK b0, ..., bn-1. -/
  | crcBlock (bytes : List Byte)
  /-- ERR_CLEAR_ALL. -/
  | errClearAll
  /-- FR_MSG_READ16 a. -/
  | frMsgRead16 (addr : Nat)
  deriving DecidableEq, Repr

/-- The commands that a pseudo-instruction stands for, in order (rule R112). -/
def Pseudo.expand : Pseudo → List Instr
  | .fbPlot x y => [.fbSet .cur x y]
  | .fbErase x y => [.fbUnset .cur x y]
  | .fbClearAll => [.fbClear true]
  | .fbCommit => [.fbAdvanceAll]
  | .crcBlock bytes => .crcInit :: (bytes.map Instr.crcUpdate ++ [.crcRead])
  | .errClearAll => [.errClear 0x03#8]
  | .frMsgRead16 addr => [.frMsgRead addr, .frMsgRead (addr + 1)]

/-- The u16 that the host forms from the two responses of FR_MSG_READ16:
`DATA0[7:0] | (DATA1[7:0] << 8)` (rule R112; 20_memory.md rule R68). -/
def hostRead16 (r0 r1 : Response) : Half := r1.data.extractLsb' 0 8 ++ r0.data.extractLsb' 0 8

/-- An operand as it is written. -/
inductive AsmOperand where
  /-- CUR, PREV or PERS. -/
  | plane (pl : PlaneId)
  /-- A number without a sign. -/
  | num (n : Nat)
  /-- A number after `-`, allowed for X and Y only. -/
  | neg (n : Nat)
  deriving DecidableEq, Repr

/-- An X or Y operand. -/
def AsmOperand.coord : AsmOperand → Option Int
  | .plane _ => none
  | .num n => some n
  | .neg n => some (-n)

/-- A D8 operand, in 0..255 (rule R111, "Range errors"). -/
def AsmOperand.byte : AsmOperand → Option Byte
  | .num n => if n ≤ 255 then some (BitVec.ofNat 8 n) else none
  | _ => none

/-- A `p` operand, 0 or 1. -/
def AsmOperand.flag : AsmOperand → Option Bool
  | .num 0 => some false
  | .num 1 => some true
  | _ => none

/-- A command of format P from its operands. -/
def asmPlane (f : PlaneId → Int → Int → Instr) : List AsmOperand → Option (List Instr)
  | [.plane pl, x, y] => do return [f pl (← x.coord) (← y.coord)]
  | _ => none

/-- A command of format C, or a pseudo-instruction with a cell, from its operands. -/
def asmCell (f : Int → Int → List Instr) : List AsmOperand → Option (List Instr)
  | [x, y] => do return f (← x.coord) (← y.coord)
  | _ => none

/-- A command of format B from its operand. -/
def asmByte (f : Byte → Instr) : List AsmOperand → Option (List Instr)
  | [d] => do return [f (← d.byte)]
  | _ => none

/-- A statement without operands. -/
def asmPlain (is : List Instr) : List AsmOperand → Option (List Instr)
  | [] => some is
  | _ => none

/-- FB_CLEAR p. -/
def asmClear : List AsmOperand → Option (List Instr)
  | [p] => do return [.fbClear (← p.flag)]
  | _ => none

/-- FB_CLEAR_REGION p, x, y, w, h. -/
def asmRegion : List AsmOperand → Option (List Instr)
  | [p, x, y, .num w, .num h] => do
    return [.fbClearRegion (← p.flag) (← x.coord) (← y.coord) w h]
  | _ => none

/-- FR_MSG_READ addr and FR_MSG_READ16 a. -/
def asmAddr (f : Nat → List Instr) : List AsmOperand → Option (List Instr)
  | [.num a] => some (f a)
  | _ => none

/-- The commands of one statement, before the range check. -/
def asmSelect (mnemonic : String) : List AsmOperand → Option (List Instr) :=
  match mnemonic with
  | "NOP" => asmPlain [.nop]
  | "CRC_INIT" => asmPlain [.crcInit]
  | "CRC_UPDATE" => asmByte .crcUpdate
  | "CRC_READ" => asmPlain [.crcRead]
  | "FR_TRY_HEADER" => asmPlain [.frTryHeader]
  | "FR_READ_MESSAGE" => asmPlain [.frReadMessage]
  | "FR_FLUSH" => asmPlain [.frFlush]
  | "FR_CURRENT" => asmPlain [.frCurrent]
  | "FR_STATUS" => asmPlain [.frStatus]
  | "FR_PKT" => asmPlain [.frPkt]
  | "FR_MSG_LEN" => asmPlain [.frMsgLen]
  | "FR_MSG_READ" => asmAddr fun a => [.frMsgRead a]
  | "FB_SET" => asmPlane .fbSet
  | "FB_UNSET" => asmPlane .fbUnset
  | "FB_IS_SET" => asmPlane .fbIsSet
  | "FB_CLEAR" => asmClear
  | "FB_CLEAR_REGION" => asmRegion
  | "FB_ADVANCE" => asmCell fun x y => [.fbAdvance x y]
  | "FB_ADVANCE_ALL" => asmPlain [.fbAdvanceAll]
  | "FB_IS_DIRTY" => asmCell fun x y => [.fbIsDirty x y]
  | "FB_DIRTY_COUNT" => asmPlain [.fbDirtyCount]
  | "FB_READ_ROW8" => asmPlane .fbReadRow8
  | "FB_GEOMETRY" => asmPlain [.fbGeometry]
  | "ERR_READ" => asmPlain [.errRead]
  | "ERR_CLEAR" => asmByte .errClear
  | "FB_PLOT" => asmCell fun x y => (Pseudo.fbPlot x y).expand
  | "FB_ERASE" => asmCell fun x y => (Pseudo.fbErase x y).expand
  | "FB_CLEAR_ALL" => asmPlain Pseudo.fbClearAll.expand
  | "FB_COMMIT" => asmPlain Pseudo.fbCommit.expand
  | "CRC_BLOCK" => fun ops => do return (Pseudo.crcBlock (← ops.mapM AsmOperand.byte)).expand
  | "ERR_CLEAR_ALL" => asmPlain Pseudo.errClearAll.expand
  | "FR_MSG_READ16" => asmAddr fun a => (Pseudo.frMsgRead16 a).expand
  | _ => fun _ => none

/-- The commands of one statement; none where an operand does not fit its field (rule R111). -/
def asmStatement (mnemonic : String) (ops : List AsmOperand) : Option (List Instr) :=
  match asmSelect mnemonic ops with
  | some is => if is.all Instr.wellFormed then some is else none
  | none => none

/-! ### The text of a line -/

/-- The value of a digit in a base. -/
def digitValue (base : Nat) (c : Char) : Option Nat :=
  let n := c.toNat
  let v := if 48 ≤ n ∧ n ≤ 57 then n - 48
    else if 65 ≤ n ∧ n ≤ 70 then n - 55
    else if 97 ≤ n ∧ n ≤ 102 then n - 87
    else base
  if v < base then some v else none

/-- The value of digits in a base, continuing from an accumulator. -/
def digitsValue (base : Nat) : Nat → List Char → Option Nat
  | acc, [] => some acc
  | acc, c :: rest =>
    match digitValue base c with
    | some d => digitsValue base (acc * base + d) rest
    | none => none

/-- A number: decimal, or hexadecimal after `0x`. -/
def lexNumber : List Char → Option Nat
  | [] => none
  | ['0', 'x'] => none
  | '0' :: 'x' :: digits => digitsValue 16 0 digits
  | digits => digitsValue 10 0 digits

/-- One operand. -/
def lexOperand : List Char → Option AsmOperand
  | ['C', 'U', 'R'] => some (.plane .cur)
  | ['P', 'R', 'E', 'V'] => some (.plane .prev)
  | ['P', 'E', 'R', 'S'] => some (.plane .pers)
  | '-' :: digits => (lexNumber digits).map AsmOperand.neg
  | digits => (lexNumber digits).map AsmOperand.num

/-- A blank of a line. -/
def isBlank (c : Char) : Bool := c == ' ' || c == '\t'

/-- The text without the blanks around it. -/
def trimBlanks (cs : List Char) : List Char :=
  (((cs.dropWhile isBlank).reverse).dropWhile isBlank).reverse

/-- The parts of a text between commas. -/
def splitCommas : List Char → List (List Char)
  | [] => [[]]
  | c :: rest =>
    match splitCommas rest with
    | [] => [[c]]
    | part :: parts => if c = ',' then [] :: part :: parts else (c :: part) :: parts

/-- The operands of a statement; none at all where nothing follows the mnemonic. -/
def lexOperands (cs : List Char) : Option (List AsmOperand) :=
  match trimBlanks cs with
  | [] => some []
  | text => (splitCommas text).mapM fun part => lexOperand (trimBlanks part)

/-- The commands of one line of assembler text; a blank line or a comment holds none. -/
def asmLine (line : String) : Option (List Instr) :=
  match trimBlanks (line.toList.takeWhile (· != ';')) with
  | [] => some []
  | text =>
    match lexOperands (text.dropWhile fun c => !isBlank c) with
    | some ops => asmStatement (String.ofList (text.takeWhile fun c => !isBlank c)) ops
    | none => none

/-- The command words of a program, line by line; none where a line does not assemble. -/
def assemble (lines : List String) : Option (List Command) :=
  match lines.mapM asmLine with
  | some parts => some (parts.flatten.map encode)
  | none => none

end Sys2Proof.Machine
end

