-- ==== Sys2Proof/Tests/Slice0.lean ====
section
/-! SUPPORT. The model's own tests. Expected values come from spec/: 95_test_vectors.md (the vector's id is
in the comment), the encodings of 30_encoding.md, and the examples in the rules. After them, one witness for
the hypotheses of each statement of Certificates/Slice0/Obligations.lean. -/

namespace Sys2Proof.Tests

open Sys2Proof.Machine

/-! ### Helpers -/

/-- Reset on a screen of 12 by 7 with MSG_CAP = 65536 and CLK_BITS = 4. -/
def base : State := { State.reset with params := ⟨12, 7, 65536, 4, 5, 10⟩ }

/-- Reset on a screen of 8 by 8. -/
def square : State := { State.reset with params := ⟨8, 8, 65536, 4, 5, 10⟩ }

/-- Inside the packet loop of a session of a type with a number of packets. -/
def inLoop (t : Byte) (count : Half) (phase : Phase) (rx : List Byte) : State :=
  { base with
    busy := true, sessionState := .payloadRead, sessionType := t, pktCount := count,
    frPhase := phase, rxq := rx, lastResult := 0x01#8 }

/-- At the step CHECK of a DotMatrixCommand session, with a payload and a declared checksum. -/
def atCheck (pay : List Byte) (crc : Half) : State :=
  { inLoop 0x12#8 1#16 .checkPacket [] with
    pktBuf := pay, pktLen := BitVec.ofNat 16 pay.length, pktCrc := crc }

/-- Frame 0 of an AnimationFrames message, anim1 of 95_test_vectors.md: 2 rows of 8 columns, 2 bitmap bytes. -/
def frame : List Byte := [0x00, 0x00, 0x02, 0x00, 0x02, 0x08, 0xF4, 0x01, 0x02, 0xA5, 0x5A]

/-- A complete DotMatrixCommand session, V-P1: MSG = 01. -/
def complete : State :=
  { base with
    sessionState := .complete, sessionType := 0x12#8, pktCount := 1#16, pktIndex := 1#16,
    msg := [(0, 0x01#8)], msgLen := 1#25, lastResult := 0x01#8, frPhase := .none }

/-- A header was accepted, V-H9: AnimationFrames with 257 packets. -/
def header : State :=
  { base with
    sessionState := .headerRead, sessionType := 0x10#8, pktCount := 257#16, lastResult := 0x01#8 }

/-- An aborted session, V-P3. -/
def aborted : State := { base with sessionState := .aborted, lastResult := 0x05#8 }

/-- The state that an outcome holds. -/
def after : Host.Outcome State Fault Refusal → Option State
  | .next s => some s
  | .fault _ => none
  | .refused _ => none

/-- The response that a command gives. -/
def answer (i : Instr) (s : State) : Option Response := (after (exec i s)).bind State.response

/-- The state after a command; the state before it where it does not complete. -/
def run1 (i : Instr) (s : State) : State := (after (exec i s)).getD s

/-! ### Well-formedness: each check refuses an ill-formed command (30_encoding.md rule R111) -/

theorem test_refuses_x_above : (Instr.fbSet .cur 2048 0).wellFormed = false := by decide
theorem test_refuses_x_below : (Instr.fbAdvance (-2049) 0).wellFormed = false := by decide
theorem test_refuses_y_above : (Instr.fbUnset .prev 0 2048).wellFormed = false := by decide
theorem test_refuses_y_below : (Instr.fbReadRow8 .pers 0 (-2049)).wellFormed = false := by decide
theorem test_refuses_is_set_x : (Instr.fbIsSet .cur 2048 0).wellFormed = false := by decide
theorem test_refuses_is_dirty_y : (Instr.fbIsDirty 0 2048).wellFormed = false := by decide
theorem test_refuses_region_x : (Instr.fbClearRegion true 2048 0 1 1).wellFormed = false := by decide
theorem test_refuses_region_y : (Instr.fbClearRegion true 0 (-2049) 1 1).wellFormed = false := by decide
theorem test_refuses_width : (Instr.fbClearRegion false 0 0 4096 1).wellFormed = false := by decide
theorem test_refuses_height : (Instr.fbClearRegion false 0 0 1 4096).wellFormed = false := by decide
theorem test_refuses_addr : (Instr.frMsgRead 16777216).wellFormed = false := by decide
theorem test_accepts_extremes :
    (Instr.fbClearRegion true (-2048) 2047 4095 4095).wellFormed = true ∧
      (Instr.frMsgRead 16777215).wellFormed = true := by decide

/-! ### Decoding: every command's word, written out from 30_encoding.md rules R91 to R99 -/

theorem test_decode_control : ([(0x0000000000000000#64, Instr.nop),
    (0x0000000000000030#64, .errRead), (0x0000000000030031#64, .errClear 0x03#8)].all
    fun p => decode p.1 == .instr p.2 && encode p.2 == p.1) = true := by decide +kernel

theorem test_decode_crc : ([(0x0000000000000001#64, Instr.crcInit),
    (0x0000000000FF0002#64, .crcUpdate 0xFF#8), (0x0000000000000003#64, .crcRead)].all
    fun p => decode p.1 == .instr p.2 && encode p.2 == p.1) = true := by decide +kernel

theorem test_decode_framer : ([(0x0000000000000010#64, Instr.frTryHeader),
    (0x0000000000000011#64, .frReadMessage), (0x0000000000000012#64, .frFlush),
    (0x0000000000000013#64, .frCurrent), (0x0000000000000014#64, .frStatus),
    (0x0000000000000015#64, .frPkt), (0x0000000000000016#64, .frMsgLen),
    (0x0000000000140017#64, .frMsgRead 20), (0x000000FFFFFF0017#64, .frMsgRead 16777215)].all
    fun p => decode p.1 == .instr p.2 && encode p.2 == p.1) = true := by decide +kernel

theorem test_decode_framebuffer : ([(0x0000000040030020#64, Instr.fbSet .cur 3 4),
    (0x0000007FF8000020#64, .fbSet .cur (-2048) 2047), (0x000000000FFF0021#64, .fbUnset .cur (-1) 0),
    (0x0000000010010222#64, .fbIsSet .pers 1 1), (0x0000000000000423#64, .fbClear true),
    (0x0000000000000023#64, .fbClear false),
    (0x006005FFDFFE0424#64, .fbClearRegion true (-2) (-3) 5 6),
    (0xFFFFFF0070070424#64, .fbClearRegion true 7 7 4095 4095),
    (0x000000004FFF0025#64, .fbAdvance (-1) 4), (0x0000000000000026#64, .fbAdvanceAll),
    (0x0000000000080027#64, .fbIsDirty 8 0), (0x0000000000000028#64, .fbDirtyCount),
    (0x0000000010010129#64, .fbReadRow8 .prev 1 1), (0x000000000000002A#64, .fbGeometry)].all
    fun p => decode p.1 == .instr p.2 && encode p.2 == p.1) = true := by decide +kernel

/-- V-E2 to V-E17: the illegal words, each with the case of rule R100 that makes it so. -/
theorem test_decode_illegal :
    [0x04#64, 0x0F#64, 0x18#64, 0x2B#64, 0x32#64, 0xFF#64].map decode =
      List.replicate 6 (.illegal .unassignedOpcode) ∧
    [0x0101#64, 0x0100#64, 0x01000002#64, 0x0823#64, 0x0000010000000017#64, 0xFFFF17#64].map decode =
      List.replicate 6 (.illegal .nonzeroReservedBit) ∧
    [0x0322#64, 0x0320#64].map decode = List.replicate 2 (.illegal .planeThree) := by decide +kernel

theorem test_decode_bytes :
    decodeBytes [0x24, 0x04, 0xFE, 0xDF, 0xFF, 0x05, 0x60, 0x00, 0xAA] =
      .word (.instr (.fbClearRegion true (-2) (-3) 5 6)) [0xAA] ∧
    decodeBytes [0x24, 0x04, 0xFE, 0xDF, 0xFF, 0x05, 0x60] = .tooShort := by decide +kernel

theorem test_table_word : decodeTableWord 64 0x40030020 = some (.fbSet .cur 3 4) ∧
    decodeTableWord 64 0x0100 = none := by decide +kernel

theorem test_fetch_word :
    (after (step (State.reset.withFetchWord 64 0x00310002))).map State.crcReg = some 0xC782#16 := by
  decide +kernel

/-! ### CRC -/

theorem test_crc_check_value :
    crc16 [0x31#8, 0x32#8, 0x33#8, 0x34#8, 0x35#8, 0x36#8, 0x37#8, 0x38#8, 0x39#8] = 0x29B1#16 := by
  decide +kernel
theorem test_crc_of_nothing : crc16 [] = 0xFFFF#16 := by decide
theorem test_crc_of_anim1 :
    crc16 [0x00, 0x00, 0x02, 0x00, 0x02, 0x08, 0xF4, 0x01, 0x02, 0xA5, 0x5A] = 0xC879#16 := by
  decide +kernel
theorem test_crcInit : answer .crcInit { base with crcReg := 0x1234#16 } = some ⟨0x01#8, 0xFFFF#32⟩ ∧
    (run1 .crcInit { base with crcReg := 0x1234#16 }).crcReg = 0xFFFF#16 := by decide
theorem test_crcUpdate : (run1 (.crcUpdate 0x31#8) base).crcReg = 0xC782#16 := by decide
theorem test_crcUpdate_zero : answer (.crcUpdate 0x00#8) base = some ⟨0x01#8, 0xE1F0#32⟩ := by decide
theorem test_crcRead : answer .crcRead { base with crcReg := 0x29B1#16 } =
    some ⟨0x01#8, 0x29B1#32⟩ := by decide

/-! ### Control -/

theorem test_nop : answer .nop { base with err := 0x03#8 } = some ⟨0x01#8, 0#32⟩ := by decide
theorem test_errRead : answer .errRead { base with err := 0x03#8 } = some ⟨0x01#8, 3#32⟩ := by decide
/-- V-K2 and V-K3. -/
theorem test_errClear : answer (.errClear 0x01#8) { base with err := 0x03#8 } = some ⟨0x01#8, 2#32⟩ ∧
    (run1 (.errClear 0xFC#8) { base with err := 0x03#8 }).err = 0x03#8 := by decide

/-! ### Framer -/

/-- V-H9 and V-H3. -/
theorem test_frTryHeader :
    answer .frTryHeader { base with rxq := [0x10, 0x01, 0x01] } = some ⟨0x01#8, 1#32⟩ ∧
    (run1 .frTryHeader { base with rxq := [0x10, 0x01, 0x01] }).pktCount = 257#16 ∧
    (run1 .frTryHeader { base with rxq := [0x10, 0x05] }).rxq = [0x10, 0x05] := by decide
/-- V-H4 and V-H5: TXQ gets 05. -/
theorem test_frTryHeader_rejects :
    (run1 .frTryHeader { base with rxq := [0x10, 0x00, 0x00] }).txq = [0x05] ∧
    (run1 .frTryHeader { base with rxq := [0x13, 0xAA] }).rxq = [0xAA] := by decide
/-- V-F7: no session. V-F15: COMPLETE. -/
theorem test_frReadMessage : (run1 .frReadMessage base).txq = [0x02] ∧
    answer .frReadMessage complete = some ⟨0x01#8, 1#32⟩ := by decide
theorem test_frReadMessage_starts :
    (run1 .frReadMessage { header with busy := true }).sessionState = .payloadRead ∧
    (run1 .frReadMessage { header with busy := true }).busy = true := by decide
theorem test_frFlush : (run1 .frFlush complete).sessionState = .idle ∧
    (run1 .frFlush complete).lastResult = 0x01#8 := by decide
/-- V-F10 and V-F11. -/
theorem test_frCurrent : answer .frCurrent header = some ⟨0x01#8, 0x00001001#32⟩ ∧
    answer .frCurrent complete = some ⟨0x01#8, 0x00001203#32⟩ := by decide
/-- V-F8 and V-F16. -/
theorem test_frStatus : answer .frStatus header = some ⟨0x01#8, 0x00100101#32⟩ ∧
    answer .frStatus aborted = some ⟨0x01#8, 0x00000504#32⟩ := by decide
/-- V-F9. -/
theorem test_frPkt : answer .frPkt header = some ⟨0x01#8, 0x01010000#32⟩ := by decide
theorem test_frMsgLen : answer .frMsgLen complete = some ⟨0x01#8, 1#32⟩ := by decide
/-- V-F12 and V-F13. -/
theorem test_frMsgRead : answer (.frMsgRead 0) complete = some ⟨0x01#8, 1#32⟩ ∧
    answer (.frMsgRead 1) complete = some ⟨0x81#8, 0#32⟩ := by decide

/-- The step PREFIX: checksum and length are little-endian (V-P1). -/
theorem test_prefix :
    (blockStep (inLoop 0x12#8 1#16 .readPrefix [0xD1, 0xF1, 0x01, 0x00, 0x01])).pktCrc = 0xF1D1#16 ∧
    (blockStep (inLoop 0x12#8 1#16 .readPrefix [0xD1, 0xF1, 0x01, 0x00, 0x01])).pktLen = 1#16 := by
  decide
/-- V-P23: a short prefix aborts and discards what it consumed. -/
theorem test_short_prefix :
    (blockStep (inLoop 0x12#8 1#16 .readPrefix [0xD1, 0xF1, 0x01])).response =
      some ⟨0x05#8, 0#32⟩ ∧
    (blockStep (inLoop 0x12#8 1#16 .readPrefix [0xD1, 0xF1, 0x01])).rxq = [] := by decide
/-- V-P1: the packet is accepted. -/
theorem test_commit : (blockStep (atCheck [0x01] 0xF1D1#16)).response = some ⟨0x01#8, 1#32⟩ ∧
    (blockStep (atCheck [0x01] 0xF1D1#16)).msg = [(0, 0x01#8)] := by decide +kernel
/-- V-P3: a command above the range aborts; V-P20: a wrong checksum is answered 03. -/
theorem test_check_rejects : (blockStep (atCheck [0x05] 0xB155#16)).sessionState = .aborted ∧
    (blockStep (atCheck [0x01] 0x0000#16)).txq = [0x03] := by decide +kernel
/-- V-P14: two bytes after the bitmap are dropped. V-P12: a bitmap too short is invalid. -/
theorem test_frames :
    recordOf 0x10#8 [0, 0, 2, 0, 2, 8, 0xF4, 1, 2, 0xA5, 0x5A, 0xEE, 0xEE] =
      [0, 0, 2, 0, 2, 8, 0xF4, 1, 2, 0xA5, 0x5A] ∧
    validPacket ⟨0, 0, 0⟩ 0x10#8 [0, 0, 5, 0, 2, 8, 0xF4, 1, 2, 0xA5, 0x5A] 0#16 = false := by decide
/-- V-P16: a later frame of another geometry is invalid. -/
theorem test_geometry :
    validPacket ⟨2#16, 2#8, 8#8⟩ 0x10#8 [1, 0, 3, 0, 3, 8, 0xF4, 1, 2, 1, 2, 3] 1#16 = false := by
  decide
/-- V-P17 and V-P18: with MSG_CAP = 21 the second record of 11 bytes does not fit, with 22 it does. -/
theorem test_capacity : (∀ cap ∈ [21, 22], State.recordFits { base with
    params := ⟨8, 8, cap, 4, 5, 10⟩, sessionType := 0x10#8, msgLen := 11#25,
    pktBuf := [1, 0, 2, 0, 2, 8, 0xF4, 1, 2, 0xFF, 0] } = decide (cap = 22)) := by decide

/-! ### Framebuffer -/

/-- CUR lit at x = 0, 2, 9 and 11 of row 0: FB-A steps 1 to 4. -/
def drawn : State := { base with planeCur := [⟨0, 0⟩, ⟨2, 0⟩, ⟨9, 0⟩, ⟨11, 0⟩] }

/-- CUR and PERS lit at (1, 1), CUR lit at (2, 1). -/
def sticky : State := { square with planeCur := [⟨1, 1⟩, ⟨2, 1⟩], planePers := [⟨1, 1⟩] }

theorem test_fbSet : (run1 (.fbSet .cur 9 0) base).planeCur = [⟨9, 0⟩] ∧
    (run1 (.fbSet .cur 12 0) base).planeCur = [] := by decide
theorem test_fbUnset : (run1 (.fbUnset .cur 1 1) sticky).pixel .cur ⟨1, 1⟩ = true ∧
    (run1 (.fbUnset .cur 2 1) sticky).pixel .cur ⟨2, 1⟩ = false := by decide
theorem test_fbUnset_pers : (run1 (.fbUnset .pers 1 1) sticky).pixel .pers ⟨1, 1⟩ = false ∧
    (run1 (.fbUnset .pers 1 1) sticky).pixel .cur ⟨1, 1⟩ = true := by decide
theorem test_fbIsSet : answer (.fbIsSet .cur 11 0) drawn = some ⟨0x01#8, 1#32⟩ ∧
    answer (.fbIsSet .cur 12 6) drawn = some ⟨0x81#8, 0#32⟩ := by decide
theorem test_fbClear : (run1 (.fbClear false) sticky).planeCur = [⟨1, 1⟩] ∧
    (run1 (.fbClear true) sticky).planePers = [] := by decide
/-- FB-B steps 1 and 7: the region clipped to x 0 to 2 and y 0 to 2. -/
theorem test_fbClearRegion :
    (run1 (.fbClearRegion false (-2) (-3) 5 6)
      { sticky with planeCur := [⟨1, 1⟩, ⟨2, 2⟩, ⟨3, 2⟩, ⟨2, 3⟩] }).planeCur =
        [⟨1, 1⟩, ⟨3, 2⟩, ⟨2, 3⟩] ∧
    (run1 (.fbClearRegion true 1 1 1 1) sticky).planeCur = [⟨2, 1⟩] := by decide
theorem test_fbAdvance : (run1 (.fbAdvance 1 1) sticky).planePrev = [⟨1, 1⟩] ∧
    (run1 (.fbAdvance 4 4) { square with planePrev := [⟨4, 4⟩] }).planePrev = [] := by decide
theorem test_fbAdvanceAll : (run1 .fbAdvanceAll drawn).planePrev = drawn.planeCur := by decide
/-- FB-C steps 10 and 15. -/
theorem test_fbIsDirty :
    answer (.fbIsDirty 4 4) { square with planePrev := [⟨4, 4⟩] } = some ⟨0x01#8, 1#32⟩ ∧
    answer (.fbIsDirty 8 0) square = some ⟨0x81#8, 0#32⟩ := by decide
/-- FB-A step 16. -/
theorem test_fbDirtyCount : answer .fbDirtyCount drawn = some ⟨0x01#8, 4#32⟩ := by decide +kernel
/-- FB-A steps 5 to 9. -/
theorem test_fbReadRow8 : answer (.fbReadRow8 .cur 0 0) drawn = some ⟨0x01#8, 0xA0#32⟩ ∧
    answer (.fbReadRow8 .cur 1 0) drawn = some ⟨0x01#8, 0x50#32⟩ := by decide
theorem test_fbReadRow8_bounds : ∀ p ∈ [((2 : Int), (0 : Int)), (-1, 0), (0, 7)],
    answer (.fbReadRow8 .cur p.1 p.2) drawn = some ⟨0x81#8, 0#32⟩ := by decide
theorem test_fbGeometry : answer .fbGeometry base = some ⟨0x01#8, 0x0007000C#32⟩ := by decide

/-! ### Assembler text (30_encoding.md rules R111, R112, R114) -/

theorem test_assemble : assemble ["FB_SET CUR, 3, 4", "", "FB_UNSET CUR, -1, 0 ; left of the screen",
    "FB_CLEAR_REGION 1, -2, -3, 5, 0x6"] =
      some [0x0000000040030020#64, 0x000000000FFF0021#64, 0x006005FFDFFE0424#64] := by decide +kernel
theorem test_assemble_pseudo : assemble ["CRC_BLOCK 0x31, 255", "FR_MSG_READ16 20"] =
    some [0x01#64, 0x00310002#64, 0x00FF0002#64, 0x03#64, 0x00140017#64, 0x00150017#64] := by
  decide +kernel
theorem test_assemble_refuses : ∀ line ∈ ["FB_SET CUR, 2048, 0", "CRC_UPDATE 256", "FB_CLEAR 2",
    "FR_MSG_READ 16777216", "FR_MSG_READ -1", "FB_SET 0, 0"], assemble [line] = none := by
  decide +kernel
theorem test_host_read16 : hostRead16 ⟨0x01#8, 0xF4#32⟩ ⟨0x01#8, 0x01#32⟩ = 0x01F4#16 := by decide

/-! ### Witnesses: for every statement with hypotheses, a state and operands that meet them all -/

/-- The state after one step; the state before it where the machine stops. -/
def next (s : State) : State := (after (step s)).getD s

/-- A state with one move on the agenda. -/
def State.facing (s : State) (m : Move) : State := { s with agenda := [m] }

/-- A state to which the host presents one command. -/
def State.given (s : State) (i : Instr) : State := State.facing s (.command (encode i))

/-- In the packet loop, before the first packet of one. -/
def reading : State := inLoop 0x12#8 1#16 .readPrefix []

theorem base_inv : base.Inv := by constructor <;> decide
theorem header_inv : header.Inv := by constructor <;> decide
theorem complete_inv : complete.Inv := by constructor <;> decide
theorem aborted_inv : aborted.Inv := by constructor <;> decide
theorem reading_inv : reading.Inv := by constructor <;> decide
theorem drawn_inv : drawn.Inv := by constructor <;> decide

/-! Encoding and the port. -/

theorem witness_DecodeOfEncodeIsTheCommand :
    (Instr.fbSet .cur (-2048) 2047).wellFormed = true := by decide
theorem witness_LegalWordIsItsCommandsEncoding :
    decode 0x0000007FF8000020#64 = .instr (.fbSet .cur (-2048) 2047) := by decide +kernel
theorem witness_IllegalWordsAndTheirEffect : ∀ why, ∃ (s : State) (w : Command) (rest : List Move),
    s.agenda = .command w :: rest ∧ s.busy = false ∧ decode w = .illegal why
  | .unassignedOpcode => ⟨State.facing base (.command 0xFF#64), 0xFF#64, [], rfl, rfl, by decide +kernel⟩
  | .nonzeroReservedBit => ⟨State.facing base (.command 0x0100#64), 0x0100#64, [], rfl, rfl, by decide +kernel⟩
  | .planeThree => ⟨State.facing base (.command 0x0322#64), 0x0322#64, [], rfl, rfl, by decide +kernel⟩
theorem witness_WordsAndResponsesAsBytes : 0 < 8 ∧ 7 < 8 ∧ 0 < 4 ∧ 3 < 4 := by decide
theorem witness_StepRunsTheDecodedCommand :
    (State.given base .fbAdvanceAll).agenda = [.command 0x26#64] ∧
    (State.given base .fbAdvanceAll).busy = false ∧ decode 0x26#64 = .instr .fbAdvanceAll ∧
    Instr.fbAdvanceAll.wellFormed = true := by decide +kernel
theorem witness_PresentedWordWaitsWhileBusy :
    (State.given reading .nop).agenda = [.command 0#64] ∧ (State.given reading .nop).busy = true := by
  decide
theorem witness_TransportMovesTouchOnlyTheQueues :
    (State.facing base (.receive 0x10#8)).agenda = [.receive 0x10#8] ∧
    (State.facing { base with txq := [0x01#8, 0x03#8] } .deliver).agenda = [.deliver] ∧
    (State.facing { base with txq := [0x01#8, 0x03#8] } .deliver).txq = [0x01#8, 0x03#8] := by decide
theorem witness_ElapsedTimeToleratesClockWrap :
    { base with clk := 15, agenda := List.replicate 17 .tick ++ [.block] : State }.agenda =
      List.replicate 17 .tick ++ [.block] ∧
    { base with clk := 15, agenda := List.replicate 17 .tick ++ [.block] : State }.clk <
      2 ^ { base with clk := 15, agenda := List.replicate 17 .tick ++ [.block] : State }.params.clkBits := by
  decide
theorem witness_ResetGivesTheResetValues : (State.facing reading .reset).agenda = [.reset] := by decide

/-! Control and the CRC unit. -/

theorem witness_NopOnlyResponds : fieldOp 0x0100#64 = 0x00#8 ∧ 0x0100#64 ≠ 0#64 ∧
    (State.facing base (.command 0x0100#64)).agenda = [.command 0x0100#64] ∧
    (State.facing base (.command 0x0100#64)).busy = false := by decide
theorem witness_ErrClearIsWriteOneToClear :
    exec (.errClear 0xFF#8) { base with err := 0x03#8 } =
      .next (run1 (.errClear 0xFF#8) { base with err := 0x03#8 }) := rfl
theorem witness_CrcIsLinear : [0x31#8, 0x32#8].length = [0xA5#8, 0x5A#8].length := by decide
theorem witness_SingleByteCorruptionChangesCrc :
    1 < [0x31#8, 0x32#8].length ∧ [0x31#8, 0x32#8].getD 1 0#8 ≠ 0x33#8 := by decide
theorem witness_CrcCommandStreamComputesCrc16 : ∃ s : State, s.busy = false ∧
    s.agenda = .command (encode .crcInit) ::
      ([0x31#8, 0xFF#8].map fun b => Move.command (encode (.crcUpdate b))) ++
      .command (encode .crcRead) :: [.tick] :=
  ⟨{ base with
      agenda := Move.command (encode .crcInit) ::
        ([0x31#8, 0xFF#8].map fun b => Move.command (encode (.crcUpdate b))) ++
        Move.command (encode .crcRead) :: [Move.tick] }, rfl, rfl⟩
theorem witness_CrcUnitAndFramerAreIndependent :
    exec .frTryHeader { base with rxq := [0x12] } =
      .next (run1 .frTryHeader { base with rxq := [0x12] }) ∧
    exec (.frMsgRead 0) complete = .next (run1 (.frMsgRead 0) complete) := ⟨rfl, rfl⟩

/-! The framer. -/

theorem witness_InternalErrorCases : header.sessionState = .headerRead ∧
    complete.sessionState = .complete ∧ base.sessionState = .idle ∧
    aborted.sessionState = .aborted := by decide
theorem witness_TryHeaderWaitsForTheWholeHeader : base.rxq = [] ∧
    { aborted with rxq := [0x10#8, 0x05#8] : State }.sessionState = .aborted ∧
    { aborted with rxq := [0x10#8, 0x05#8] : State }.rxq = 0x10#8 :: [0x05#8] ∧
    { aborted with rxq := [0x10#8, 0x05#8] : State }.rxq.length < 3 := by decide
theorem witness_RejectedHeaders : ∃ s : State, s.sessionState = .aborted ∧
    s.rxq = [0x10#8, 0x00#8, 0x00#8] ++ [0xAA#8] :=
  ⟨{ aborted with rxq := [0x10#8, 0x00#8, 0x00#8, 0xAA#8] }, rfl, rfl⟩
theorem witness_RejectedHeaders_unknown : ∃ (s : State) (t : Byte), s.sessionState = .idle ∧
    s.rxq = t :: [0xAA#8] ∧ t ≠ 0x10#8 ∧ t ≠ 0x11#8 ∧ t ≠ 0x12#8 :=
  ⟨{ base with rxq := [0x13#8, 0xAA#8] }, 0x13#8, rfl, rfl, by decide, by decide, by decide⟩
theorem witness_TryHeaderOpensTheSession : ∀ n ∈ [1#16, 65535#16], ∃ s : State,
    s.sessionState = .idle ∧ n ≠ 0#16 ∧ s.rxq = headerBytes (.animation n) ++ [0xAA#8] := by
  intro n hn
  refine ⟨{ base with rxq := headerBytes (.animation n) ++ [0xAA#8] }, rfl, ?_, rfl⟩
  rcases List.mem_pair.1 hn with rfl | rfl <;> decide
theorem witness_TryHeaderOpensTheSession_single : ∀ t : Byte, t = 0x11#8 ∨ t = 0x12#8 →
    ∃ s : State, s.sessionState = .aborted ∧ s.rxq = t :: [0xAA#8] :=
  fun t _ => ⟨{ aborted with rxq := [t, 0xAA#8] }, rfl, rfl⟩
theorem witness_ReadMessageStartsThePacketLoop :
    header.sessionState = .headerRead ∧ reading.sessionState = .payloadRead := by decide
theorem witness_ReadMessageInCompleteHasNoEffect : complete.sessionState = .complete := by decide
theorem witness_PacketReadOrAbort : ∃ s : State, s.sessionState = .payloadRead ∧
    s.frPhase = .readPrefix ∧ s.rxq = [0xD1#8, 0xF1#8, 0x01#8, 0x00#8] ++ [0x01#8] :=
  ⟨inLoop 0x12#8 1#16 .readPrefix [0xD1, 0xF1, 0x01, 0x00, 0x01], rfl, rfl, rfl⟩
theorem witness_PacketReadOrAbort_payload : ∀ pay ∈ [[], [0x01#8]], ∃ s : State,
    s.sessionState = .payloadRead ∧ s.frPhase = .readPayload ∧ s.rxq = pay ++ [0xAA#8] ∧
    pay.length = s.pktLen.toNat := by
  intro pay hp
  refine ⟨{ inLoop 0x12#8 1#16 .readPayload (pay ++ [0xAA#8]) with
    pktLen := BitVec.ofNat 16 pay.length }, rfl, rfl, rfl, ?_⟩
  rcases List.mem_pair.1 hp with rfl | rfl <;> rfl
theorem witness_PacketReadOrAbort_short : ∃ s : State, s.sessionState = .payloadRead ∧
    s.frPhase = .readPrefix ∧ s.rxq.length < 4 :=
  ⟨inLoop 0x12#8 1#16 .readPrefix [0xD1, 0xF1, 0x01], rfl, rfl, by decide⟩
theorem witness_PacketReadOrAbort_short_payload : ∃ s : State, s.sessionState = .payloadRead ∧
    s.frPhase = .readPayload ∧ s.rxq.length < s.pktLen.toNat :=
  ⟨{ inLoop 0x12#8 1#16 .readPayload [0x01] with pktLen := 2#16 }, rfl, rfl, by decide⟩
theorem witness_MismatchIsRetried : (atCheck [0x01] 0#16).sessionState = .payloadRead ∧
    (atCheck [0x01] 0#16).frPhase = .checkPacket ∧
    crc16 (atCheck [0x01] 0#16).pktBuf ≠ (atCheck [0x01] 0#16).pktCrc ∧
    (inLoop 0x12#8 1#16 .retryWait []).sessionState = .payloadRead ∧
    (inLoop 0x12#8 1#16 .retryWait []).frPhase = .retryWait := by decide +kernel
/-- V-P3 for a failed validation. -/
theorem witness_InvalidOrOverflowingPacketAborts : ∃ (s : State) (record : List Byte),
    s.sessionType = 0x12#8 ∧ record = s.pktBuf ∧ s.sessionState = .payloadRead ∧
    s.frPhase = .checkPacket ∧ crc16 s.pktBuf = s.pktCrc ∧
    validPacket s.geom0 s.sessionType s.pktBuf s.pktIndex = false :=
  ⟨atCheck [0x05] 0xB155#16, [0x05], rfl, rfl, rfl, rfl, by decide +kernel, by decide +kernel⟩
/-- A record one byte longer than what is left of the store. -/
theorem witness_InvalidOrOverflowingPacketAborts_overflow : ∃ (s : State) (record : List Byte),
    s.sessionType = 0x12#8 ∧ record = s.pktBuf ∧ s.sessionState = .payloadRead ∧
    s.frPhase = .checkPacket ∧ crc16 s.pktBuf = s.pktCrc ∧
    s.msgLen.toNat + record.length = s.params.msgCap + 1 :=
  ⟨{ atCheck [0x01] 0xF1D1#16 with msgLen := 65536#25 }, [0x01], rfl, rfl, rfl, rfl,
    by decide +kernel, by decide⟩

/-- The step CHECK of frame 0 of an AnimationFrames message, V-P14: two extra bytes after its bitmap. -/
def atFrame (count : Half) : State :=
  { inLoop 0x10#8 count .checkPacket [] with
    pktBuf := frame ++ [0xEE, 0xEE], pktLen := 13#16, pktCrc := 0x5F1E#16 }

theorem atFrame_inv : (atFrame 1#16).Inv ∧ (atFrame 2#16).Inv :=
  ⟨by constructor <;> decide, by constructor <;> decide⟩

theorem witness_AcceptedPacketIsCommitted_record : 9 ≤ frame.length := by decide
/-- Of one declared packet, and of two; the extra bytes are not in the record. -/
theorem witness_AcceptedPacketIsCommitted : ∀ s ∈ [atFrame 1#16, atFrame 2#16],
    s.Inv ∧ s.sessionType = 0x10#8 ∧
    frame = s.pktBuf.take (9 + ((s.pktBuf.getD 2 0#8).toNat + 256 * (s.pktBuf.getD 3 0#8).toNat)) ∧
    s.frPhase = .checkPacket ∧ crc16 s.pktBuf = s.pktCrc ∧
    validPacket s.geom0 s.sessionType s.pktBuf s.pktIndex = true ∧
    s.msgLen.toNat + frame.length ≤ s.params.msgCap := by
  intro s hs
  rcases List.mem_pair.1 hs with rfl | rfl
  · exact ⟨atFrame_inv.1, rfl, by decide, rfl, by decide +kernel, by decide +kernel, by decide⟩
  · exact ⟨atFrame_inv.2, rfl, by decide, rfl, by decide +kernel, by decide +kernel, by decide⟩
/-- A single-packet type, whose record is the whole payload. -/
theorem witness_AcceptedPacketIsCommitted_command : ∃ s : State, s.Inv ∧ s.sessionType = 0x12#8 ∧
    s.pktBuf = [0x01#8] ∧ s.frPhase = .checkPacket ∧ crc16 s.pktBuf = s.pktCrc ∧
    validPacket s.geom0 s.sessionType s.pktBuf s.pktIndex = true ∧
    s.msgLen.toNat + s.pktBuf.length ≤ s.params.msgCap := by
  refine ⟨atCheck [0x01] 0xF1D1#16, ?_, rfl, rfl, rfl, by decide +kernel, by decide +kernel, by decide⟩
  constructor <;> decide

/-- V-P14 on the wire: the frame with its extra bytes. -/
theorem witness_SentFrameIsAccepted : ∃ (s : State) (payload record rest : List Byte), s.Inv ∧
    s.agenda = [] ∧ s.sessionType = 0x10#8 ∧
    record = payload.take (9 + ((payload.getD 2 0#8).toNat + 256 * (payload.getD 3 0#8).toNat)) ∧
    s.sessionState = .payloadRead ∧ s.frPhase = .readPrefix ∧
    s.rxq = frameBytes payload ++ rest ∧ payload.length ≤ 65535 ∧
    validPacket s.geom0 s.sessionType payload s.pktIndex = true ∧
    s.msgLen.toNat + record.length ≤ s.params.msgCap := by
  refine ⟨inLoop 0x10#8 2#16 .readPrefix (frameBytes (frame ++ [0xEE, 0xEE]) ++ [0xAA]), frame ++ [0xEE, 0xEE], frame,
    [0xAA], ?_, rfl, rfl, by decide, rfl, rfl, rfl, by decide, by decide +kernel, by decide⟩
  constructor <;> decide
/-- A single-packet type on the wire. -/
theorem witness_SentFrameIsAccepted_command : ∃ (s : State) (payload rest : List Byte), s.Inv ∧
    s.agenda = [] ∧ s.sessionType = 0x12#8 ∧
    s.sessionState = .payloadRead ∧ s.frPhase = .readPrefix ∧
    s.rxq = frameBytes payload ++ rest ∧ payload.length ≤ 65535 ∧
    validPacket s.geom0 s.sessionType payload s.pktIndex = true ∧
    s.msgLen.toNat + payload.length ≤ s.params.msgCap := by
  refine ⟨inLoop 0x12#8 1#16 .readPrefix (frameBytes [0x04] ++ [0xAA]), [0x04], [0xAA], ?_, rfl, rfl,
    rfl, rfl, rfl, by decide, by decide +kernel, by decide⟩
  constructor <;> decide

theorem witness_CorruptedFrameIsRetriedNotAccepted : ∃ (s : State) (payload rest : List Byte) (i : Nat)
    (b : Byte), s.agenda = [] ∧ s.sessionState = .payloadRead ∧ s.frPhase = .readPrefix ∧
    i < payload.length ∧ payload.length ≤ 65535 ∧ payload.getD i 0#8 ≠ b ∧
    s.rxq = u16Bytes (crc16 payload) ++ u16Bytes (BitVec.ofNat 16 payload.length) ++
      payload.set i b ++ rest :=
  ⟨inLoop 0x12#8 1#16 .readPrefix (u16Bytes (crc16 [0x01]) ++ u16Bytes (BitVec.ofNat 16 1) ++
      [0x01#8].set 0 0x02#8 ++ [0xAA#8]), [0x01#8], [0xAA#8], 0, 0x02#8, rfl, rfl, rfl, by decide, by decide,
    by decide, rfl⟩
theorem witness_PacketLoopRespondsWhenNoBytesArrive : reading.Inv ∧
    reading.sessionState = .payloadRead ∧ reading.agenda = [] := ⟨reading_inv, rfl, rfl⟩
theorem witness_EndlessMismatchRunExists : reading.Inv ∧ reading.sessionState = .payloadRead ∧
    reading.frPhase = .readPrefix ∧ reading.agenda = [] ∧ reading.rxq = [] :=
  ⟨reading_inv, rfl, rfl, rfl, rfl⟩
theorem witness_FramerViewsAnswerTheirElements :
    complete.sessionState = .complete ∧ 0 < complete.msgLen.toNat := by decide
/-- Each kind at the first value past its range. -/
theorem witness_BoundsHasExactlyItsEffects : ¬ InB base.params (-1) 0 ∧ ¬ InB base.params 12 6 ∧
    ¬ InB base.params 0 7 ∧ ¬ (0 ≤ (2 : Int) ∧ (2 : Int) < ((base.params.fbW + 7) / 8 : Nat)) ∧
    complete.msgLen.toNat ≤ 1 ∧ base.sessionState ≠ .headerRead ∧ base.sessionState ≠ .complete := by
  decide
theorem witness_NoStaleMessageByteIsReadable :
    exec .frFlush complete = .next (run1 .frFlush complete) ∧
    reading.sessionState = .payloadRead ∧ (blockStep reading).sessionState = .aborted ∧
    (State.facing complete .reset).agenda = [.reset] ∧
    step (State.facing aborted .tick) = .next (next (State.facing aborted .tick)) := by
  refine ⟨rfl, rfl, by decide, rfl, rfl⟩

/-! The framebuffer. -/

theorem witness_CellReadsAnswerTheBits :
    InB base.params 0 0 ∧ InB base.params 11 6 ∧ base.params.Legal := by decide
theorem witness_PersistenceInvariantHolds : sticky.pixel .pers ⟨1, 1⟩ = true ∧
    exec (.fbUnset .cur 1 1) sticky = .next (run1 (.fbUnset .cur 1 1) sticky) ∧
    exec (.fbClear false) sticky = .next (run1 (.fbClear false) sticky) ∧
    exec (.fbClearRegion false 0 0 2 2) sticky = .next (run1 (.fbClearRegion false 0 0 2 2) sticky) :=
  ⟨by decide, rfl, rfl, rfl⟩
theorem witness_PersistenceInvariantHolds_cleared : InB sticky.params 1 1 ∧
    exec (.fbClear true) sticky = .next (run1 (.fbClear true) sticky) ∧
    ((1 : Int) ≤ 1 ∧ (1 : Int) < 1 + (1 : Nat)) ∧
    exec (.fbClearRegion true 1 1 1 1) sticky = .next (run1 (.fbClearRegion true 1 1 1 1) sticky) :=
  ⟨by decide, rfl, by decide, rfl⟩
theorem witness_DirtyCountCountsTheDifferingCells : drawn.params.Legal := by decide
theorem witness_ReadRow8PacksEightPixels : (0 : Int) ≤ 1 ∧
    (1 : Int) < ((base.params.fbW + 7) / 8 : Nat) ∧ (0 : Int) ≤ 6 ∧ (6 : Int) < base.params.fbH := by
  decide

/-- The last bitmap byte of a frame. -/
theorem witness_DrawnFrameRowReadsBack_pixel :
    9 + 1 * (((frame.getD 5 0#8).toNat + 7) / 8) + 7 / 8 < frame.length := by decide
/-- Row 1 of a frame of 2 rows and 10 columns, 0xFF 0xC0, drawn into row 6 of the screen. -/
theorem witness_DrawnFrameRowReadsBack : ∃ (s : State) (frame : List Byte) (rows cols xb row y : Nat),
    rows = (frame.getD 4 0#8).toNat ∧ cols = (frame.getD 5 0#8).toNat ∧
    9 + rows * ((cols + 7) / 8) ≤ frame.length ∧
    cols ≤ s.params.fbW ∧ row < rows ∧ y < s.params.fbH ∧ xb < (cols + 7) / 8 ∧
    (∀ c, c < cols → s.pixel .cur ⟨c, y⟩ = framePixel frame c row) ∧
    (∀ c, cols ≤ c → c < 8 * ((cols + 7) / 8) →
      s.pixel .cur ⟨c, y⟩ = false ∧ framePixel frame c row = false) := by
  refine ⟨{ base with planeCur := (List.range 10).map fun x => ⟨x, 6⟩ },
    [0, 0, 4, 0, 2, 10, 0, 0, 0, 0, 0, 0xFF, 0xC0], 2, 10, 1, 1, 6, by decide, by decide, by decide,
    by decide, by decide, by decide, by decide, by decide, ?_⟩
  intro c h1 h2
  have h2' : c < 16 := h2
  interval_cases c <;> decide

/-! The whole machine. -/

theorem witness_CancellationClearsEverything : ∃ (s : State) (rest : List Move), s.Inv ∧ s.busy = false ∧
    s.agenda = [.command (encode .frFlush), .command (encode (.fbClear true)),
      .command (encode .fbAdvanceAll), .command (encode .fbDirtyCount)] ++ rest := by
  refine ⟨{ drawn with agenda := [.command (encode .frFlush), .command (encode (.fbClear true)),
    .command (encode .fbAdvanceAll), .command (encode .fbDirtyCount)] ++ [.tick] }, [.tick], ?_, rfl, rfl⟩
  constructor <;> decide
theorem witness_EveryStepKeepsTheInvariant : reading.Inv ∧ step reading = .next (blockStep reading) :=
  ⟨reading_inv, rfl⟩
theorem witness_NoStepStopsTheMachine : header.Inv := header_inv
theorem given_inv {s : State} (h : s.Inv) (i : Instr) : (State.given s i).Inv :=
  { h with }
theorem facing_inv {s : State} (h : s.Inv) (m : Move) : (State.facing s m).Inv :=
  { h with }

/-- A state of the invariant with a step to t, from and into the named session states. -/
def Moves (s : State) (a b : SessionState) : Prop :=
  s.Inv ∧ step s = .next (next s) ∧ s.sessionState = a ∧ (next s).sessionState = b

/-- Each of the six kinds of transition happens (the fourth both ways). -/
theorem witness_OnlyTheListedSessionTransitions :
    Moves (State.given { base with rxq := [0x12] } .frTryHeader) .idle .headerRead ∧
    Moves (State.given { aborted with rxq := [0x13] } .frTryHeader) .aborted .idle ∧
    Moves (State.given header .frReadMessage) .headerRead .payloadRead ∧
    (atFrame 1#16).Inv ∧ step (atFrame 1#16) = .next (blockStep (atFrame 1#16)) ∧
    (atFrame 1#16).sessionState = .payloadRead ∧
    (blockStep (atFrame 1#16)).sessionState = .complete ∧ Moves reading .payloadRead .aborted ∧
    Moves (State.given complete .frFlush) .complete .idle ∧
    Moves (State.facing reading .reset) .payloadRead .idle := by
  refine ⟨⟨given_inv ?_ _, rfl, rfl, by decide⟩, ⟨given_inv ?_ _, rfl, rfl, by decide⟩,
    ⟨given_inv header_inv _, rfl, rfl, by decide⟩, atFrame_inv.1, rfl, rfl,
    by decide +kernel, ⟨reading_inv, rfl, rfl, by decide⟩, ⟨given_inv complete_inv _, rfl, rfl, by decide⟩,
    ⟨facing_inv reading_inv _, rfl, rfl, by decide⟩⟩
  · exact { base_inv with }
  · exact { aborted_inv with }

theorem not_deliver_not_reset {s : State} {i : Instr} (rest : List Move) :
    (State.given s i).agenda ≠ .deliver :: rest ∧ (State.given s i).agenda ≠ .reset :: rest :=
  ⟨by simp [State.given, State.facing], by simp [State.given, State.facing]⟩

theorem witness_ResultBytesAreSentOneAtATime :
    step (State.given base .frReadMessage) = .next (next (State.given base .frReadMessage)) ∧
    ∀ rest, (State.given base .frReadMessage).agenda ≠ .deliver :: rest ∧
      (State.given base .frReadMessage).agenda ≠ .reset :: rest :=
  ⟨rfl, not_deliver_not_reset⟩
theorem witness_RxqIsConsumedFromItsFrontOnly :
    step (State.given { base with rxq := [0x12] } .frTryHeader) =
      .next (next (State.given { base with rxq := [0x12] } .frTryHeader)) ∧
    ∀ rest, (State.given { base with rxq := [0x12] } .frTryHeader).agenda ≠ .reset :: rest :=
  ⟨rfl, fun rest => (not_deliver_not_reset rest).2⟩
theorem witness_ErrBitsAreSticky : ∃ s : State, s.Inv ∧ s.err = 0x03#8 ∧ step s = .next (next s) ∧
    (∀ rest, s.agenda ≠ .reset :: rest) ∧
    ∀ d8 rest, s.agenda ≠ .command (encode (.errClear d8)) :: rest := by
  refine ⟨State.facing { base with err := 0x03#8 } (.receive 0#8), facing_inv ?_ _, rfl, rfl,
    by simp [State.facing], by simp [State.facing]⟩
  constructor <;> decide
theorem witness_PacketLoopRespondsOkOrUnexpectedData : reading.Inv ∧ reading.busy = true ∧
    (blockStep reading).busy = false ∧ (atFrame 1#16).Inv ∧ (atFrame 1#16).busy = true ∧
    (blockStep (atFrame 1#16)).busy = false :=
  ⟨reading_inv, rfl, by decide, atFrame_inv.1, rfl, by decide +kernel⟩
theorem witness_EveryOtherCommandRespondsAtOnce : ∀ i ∈ [Instr.nop, .frReadMessage],
    (State.given header i).Inv ∧ (State.given header i).busy = false ∧
    (State.given header i).agenda = [.command (encode i)] ∧
    step (State.given header i) = .next (next (State.given header i)) := by
  intro i hi
  refine ⟨given_inv header_inv i, rfl, rfl, ?_⟩
  rcases List.mem_pair.1 hi with rfl | rfl <;> rfl
theorem witness_ListedWriteCommandsAreIdempotent : ∀ i ∈ [Instr.fbSet .cur 3 4, .fbUnset .prev (-1) 0,
    .fbClear true, .fbClearRegion false 0 0 5 6, .fbAdvance 11 6, .fbAdvanceAll, .crcInit, .frFlush,
    .errClear 0x03#8], ∃ t, exec i complete = .next t := by
  intro i hi
  fin_cases hi <;> exact ⟨_, rfl⟩

end Sys2Proof.Tests
end

namespace Sys2Proof.Proofs

open Sys2Proof.Machine Sys2Proof.Laws

/-! ### Values carried as bytes, least significant first (20_memory.md rule R70) -/

section Bytes

variable {k : Nat}

@[simp] theorem length_bytesLE (n : Nat) (v : BitVec k) : (bytesLE n v).length = n := by
  induction n generalizing v with
  | zero => rfl
  | succ n ih => simp [bytesLE, ih]

/-- Dropping the lowest byte of a value moves the field at `start + 8` down to `start`. -/
theorem extractLsb'_ushiftRight_eight (v : BitVec k) (start len : Nat) :
    (v >>> 8).extractLsb' start len = v.extractLsb' (start + 8) len := by
  apply BitVec.eq_of_getLsbD_eq
  intro i _
  simp only [BitVec.getLsbD_extractLsb', BitVec.getLsbD_ushiftRight]
  rw [show 8 + (start + i) = start + 8 + i by omega]

/-- The lowest byte of a value of any width, narrower than a byte included. -/
theorem setWidth_eight_eq_extractLsb' (v : BitVec k) : v.setWidth 8 = v.extractLsb' 0 8 := by
  apply BitVec.eq_of_getLsbD_eq
  intro i _
  rw [BitVec.getLsbD_setWidth, BitVec.getLsbD_extractLsb', Nat.zero_add]

/-- Byte `j` of a value carried as bytes is its bits `8j+7` to `8j`. -/
theorem getD_bytesLE {n j : Nat} (h : j < n) (v : BitVec k) :
    (bytesLE n v).getD j 0#8 = v.extractLsb' (8 * j) 8 := by
  induction n generalizing v j with
  | zero => omega
  | succ n ih =>
    cases j with
    | zero => exact setWidth_eight_eq_extractLsb' v
    | succ j => exact (ih (by omega) (v >>> 8)).trans (extractLsb'_ushiftRight_eight v _ _)

/-- What `n` bytes of a value carry: its lowest `8n` bits. -/
theorem getLsbD_ofBytesLE_bytesLE (n : Nat) (v : BitVec k) (i : Nat) :
    (ofBytesLE (bytesLE n v) : BitVec k).getLsbD i = (decide (i < 8 * n) && v.getLsbD i) := by
  induction n generalizing v i with
  | zero => simp [bytesLE, ofBytesLE]
  | succ n ih =>
    simp only [bytesLE, ofBytesLE, BitVec.getLsbD_or, BitVec.getLsbD_shiftLeft, ih,
      BitVec.getLsbD_ushiftRight, BitVec.getLsbD_setWidth]
    by_cases hk : i < k
    · by_cases h8 : i < 8
      · simp [hk, h8, show i < 8 * (n + 1) by omega]
      · simp [hk, h8, show 8 + (i - 8) = i by omega, show i - 8 < 8 * n ↔ i < 8 * (n + 1) by omega]
    · simp [hk, BitVec.getLsbD_of_ge v i (by omega)]

/-- As many bytes as a value needs carry the whole of it. -/
theorem ofBytesLE_bytesLE {n : Nat} (h : k ≤ 8 * n) (v : BitVec k) :
    ofBytesLE (bytesLE n v) = v := by
  apply BitVec.eq_of_getLsbD_eq
  intro i hi
  rw [getLsbD_ofBytesLE_bytesLE, decide_eq_true (by omega), Bool.true_and]

end Bytes

@[simp] theorem length_commandBytes (w : Command) : (commandBytes w).length = 8 :=
  length_bytesLE 8 w

/-- The decoder takes a command's 8 bytes off the stream and decodes the word they carry. -/
theorem decodeBytes_commandBytes_append (w : Command) (rest : List Byte) :
    decodeBytes (commandBytes w ++ rest) = .word (decode w) rest := by
  have htake : (commandBytes w ++ rest).take 8 = commandBytes w :=
    List.take_left' (length_commandBytes w)
  have hdrop : (commandBytes w ++ rest).drop 8 = rest := List.drop_left' (length_commandBytes w)
  have hword : ofBytesLE (commandBytes w) = w := ofBytesLE_bytesLE (by decide) w
  have hlong : ¬ (commandBytes w ++ rest).length < 8 := by simp
  rw [decodeBytes, if_neg hlong, htake, hdrop, hword]

/-- Byte `k + 1` of a response is byte `k` of DATA. -/
theorem getD_responseBytes_succ (r : Response) {k : Nat} (h : k < 4) :
    (responseBytes r).getD (k + 1) 0#8 = r.data.extractLsb' (8 * k) 8 := by
  interval_cases k <;> rfl

/-- Settles O5: the bytes of a word by induction on their number, and `ofBytesLE` inverts `bytesLE`. -/
theorem wordsAndResponsesAsBytes : Obligations.WordsAndResponsesAsBytes :=
  ⟨fun w => ⟨length_commandBytes w, fun _ hk => getD_bytesLE hk w⟩,
    decodeBytes_commandBytes_append,
    fun r => ⟨rfl, rfl, fun _ hk => getD_responseBytes_succ r hk⟩⟩

/-! ### The transport's moves (20_memory.md rule R80) -/

theorem step_of_receive {s : State} {b : Byte} {rest : List Move}
    (h : s.agenda = .receive b :: rest) : step s = .next ((s.moveOn rest).appendRx b) := by
  simp [step, h]

theorem step_of_deliver {s : State} {rest : List Move} (h : s.agenda = .deliver :: rest) :
    step s = .next (s.moveOn rest).deliverTx := by
  simp [step, h]

/-- A delivery takes the byte at the front of TXQ and changes nothing else. -/
theorem deliverTx_of_txq_cons {s : State} {b : Byte} {queue : List Byte} (h : s.txq = b :: queue) :
    s.deliverTx = { s with txq := queue } := by
  rw [State.deliverTx, h, List.tail_cons]

/-- Settles O8: each move is one step, whose effect on the queue its own lemma gives. -/
theorem transportMovesTouchOnlyTheQueues : Obligations.TransportMovesTouchOnlyTheQueues := by
  constructor
  · intro s b rest hreceive
    exact step_of_receive hreceive
  · intro s b queue rest hdeliver htxq
    rw [step_of_deliver hdeliver, deliverTx_of_txq_cons (s := s.moveOn rest) htxq]
    rfl

end Sys2Proof.Proofs

namespace Sys2Proof.Proofs

open Sys2Proof.Machine Sys2Proof.Laws

/-! ### The decoder by format (30_encoding.md rules R99, R100 and R113) -/

/-- The opcodes that the opcode map leaves unassigned, as numbers. -/
theorem formatOf_eq_none_iff (op : Byte) : formatOf op = none ↔
    ((0x04 ≤ op.toNat ∧ op.toNat ≤ 0x0F) ∨ (0x18 ≤ op.toNat ∧ op.toNat ≤ 0x1F) ∨
      (0x2B ≤ op.toNat ∧ op.toNat ≤ 0x2F) ∨ (0x32 ≤ op.toNat ∧ op.toNat ≤ 0xFF)) := by
  have hrows : formatOf op = none ↔ ∀ row ∈ opcodeMap, row.1.toNat ≠ op.toNat := by
    simp [formatOf, BitVec.toNat_inj]
  rw [hrows]
  simp only [opcodeMap, List.forall_mem_cons, List.not_mem_nil, false_implies, implies_true,
    and_true, BitVec.reduceToNat, BitVec.ofNat_eq_ofNat, ne_eq]
  omega

/-- The three ways in which the format of a word's opcode settles what the decoder answers. -/
inductive DecodesBy (w : Command) : Option Format → Decoded → Prop where
  | unassigned : DecodesBy w none (.illegal .unassignedOpcode)
  | plain {f : Format} (i : Instr) (hf : f ≠ .P) : DecodesBy w (some f) (decodeAs f w i)
  | plane (i : PlaneId → Instr) : DecodesBy w (some .P) (decodePlane w i)

theorem formatOf_of_toNat {op : Byte} {n : Nat} {f : Format} (hop : op.toNat = n)
    (hf : formatOf (BitVec.ofNat 8 n) = some f) : formatOf op = some f := by
  rw [← hf, ← hop, BitVec.ofNat_toNat, BitVec.setWidth_eq]

/-- The decoder reads every word by the format that the opcode map gives its opcode. -/
theorem decodesBy_decode (w : Command) : DecodesBy w (formatOf (fieldOp w)) (decode w) := by
  unfold decode
  split
  case h_13 h | h_14 h | h_15 h | h_22 h =>
    rw [formatOf_of_toNat h rfl]
    exact .plane _
  case h_26 =>
    have hnone : formatOf (fieldOp w) = none := by
      simp only [imp_false] at *
      rw [formatOf_eq_none_iff]
      omega
    rw [hnone]
    exact .unassigned
  all_goals
    rename_i h
    rw [formatOf_of_toNat h rfl]
    exact .plain _ (by decide)

theorem fitsFormat_iff (f : Format) (w : Command) :
    fitsFormat f w = true ↔ w &&& f.mask = (fieldOp w).setWidth 64 :=
  beq_iff_eq

theorem decodeAs_illegal_iff (f : Format) (w : Command) (i : Instr) :
    (∃ why, decodeAs f w i = .illegal why) ↔ w &&& f.mask ≠ (fieldOp w).setWidth 64 := by
  rw [ne_eq, ← fitsFormat_iff]
  cases hfits : fitsFormat f w <;> simp [decodeAs, hfits]

theorem planeOfCode_eq_none_iff : ∀ c : BitVec 2, planeOfCode c = none ↔ c = 3#2 := by decide

theorem decodePlane_illegal_iff (w : Command) (i : PlaneId → Instr) :
    (∃ why, decodePlane w i = .illegal why) ↔
      (w &&& Format.P.mask ≠ (fieldOp w).setWidth 64 ∨ fieldPl w = 3#2) := by
  rw [ne_eq, ← fitsFormat_iff, ← planeOfCode_eq_none_iff]
  cases hfits : fitsFormat .P w with
  | false => simp [decodePlane, hfits]
  | true => cases hplane : planeOfCode (fieldPl w) <;> simp [decodePlane, hfits, hplane]

/-- The three cases of rule R100. -/
theorem decode_illegal_iff (w : Command) : (∃ why, decode w = .illegal why) ↔
    (formatOf (fieldOp w) = none ∨
      ∃ f, formatOf (fieldOp w) = some f ∧
        (w &&& f.mask ≠ (fieldOp w).setWidth 64 ∨ (f = .P ∧ fieldPl w = 3#2))) := by
  have h := decodesBy_decode w
  generalize formatOf (fieldOp w) = format, decode w = answer at h ⊢
  cases h with
  | unassigned => simp
  | plain i hf => simp [decodeAs_illegal_iff, hf]
  | plane i => simp [decodePlane_illegal_iff]

/-! ### What an illegal word does (60_exceptions.md rule R303) -/

theorem step_of_command {s : State} {w : Command} {rest : List Move}
    (h : s.agenda = .command w :: rest) (hfree : s.busy = false) :
    step s = runWord w (s.accept rest) := by
  simp [step, h, hfree]

theorem runWord_of_illegal {w : Command} {why : IllegalWord} (h : decode w = .illegal why)
    (s : State) : runWord w s = .next (s.raise .illegal) := by
  simp [runWord, h]

/-- Settles O3: rule R100 from the decoder's reading by format, rule R303 from the one effect of a
port error. -/
theorem illegalWordsAndTheirEffect : Obligations.IllegalWordsAndTheirEffect := by
  refine ⟨decode_illegal_iff, formatOf_eq_none_iff, by decide, ?_⟩
  intro s w rest why hagenda hfree hillegal
  rw [step_of_command hagenda hfree, runWord_of_illegal hillegal, raise_eq]
  rfl

/-! ### The worked encodings (30_encoding.md rule R114) -/

/-- Settles O4: each of the six closed facts by evaluating the encoder or the decoder on it. -/
theorem workedEncodings : Obligations.WorkedEncodings :=
  ⟨⟨by decide, by decide⟩, ⟨by decide, by decide⟩, ⟨by decide, by decide⟩⟩

end Sys2Proof.Proofs

namespace Sys2Proof.Proofs

open Sys2Proof.Machine Sys2Proof.Laws

/-! ### One shift of the checksum register (40_crc.md rule R131) -/

/-- A shift moves the register up by one bit and XORs in the polynomial where the top bit was 1. -/
theorem crcShift_eq (c : Half) :
    crcShift c = (c <<< 1) ^^^ (if c.msb then 0x1021#16 else 0#16) := by
  cases hmsb : c.msb <;> simp [crcShift, hmsb]

theorem crcShift_xor (c d : Half) : crcShift (c ^^^ d) = crcShift c ^^^ crcShift d := by
  have hpoly : (if (c ^^^ d).msb then 0x1021#16 else 0#16) =
      (if c.msb then 0x1021#16 else 0#16) ^^^ (if d.msb then 0x1021#16 else 0#16) := by
    rw [BitVec.msb_xor]
    cases c.msb <;> cases d.msb <;> rfl
  rw [crcShift_eq, crcShift_eq c, crcShift_eq d, hpoly, BitVec.shiftLeft_xor_distrib]
  ac_rfl

/-- The polynomial is odd, so the bit shifted out at the top comes back in at the bottom. -/
theorem getLsbD_zero_crcShift (c : Half) : (crcShift c).getLsbD 0 = c.msb := by
  cases hmsb : c.msb <;> simp [crcShift, hmsb]

/-- The new bit 0 tells which bit was shifted out, and with it the shift can be undone. -/
theorem crcShift_injective : Function.Injective crcShift := by
  intro c d h
  have hmsb : c.msb = d.msb := by
    rw [← getLsbD_zero_crcShift c, ← getLsbD_zero_crcShift d, h]
  have hshift : c <<< 1 = d <<< 1 := by
    rw [crcShift_eq, crcShift_eq, hmsb] at h
    exact (BitVec.xor_left_inj _).1 h
  have hlow := congrArg BitVec.toNat hshift
  simp only [BitVec.msb_eq_decide, decide_eq_decide, BitVec.toNat_shiftLeft,
    Nat.shiftLeft_eq] at hmsb hlow
  apply BitVec.eq_of_toNat_eq
  omega

/-! ### Folding a byte and a sequence (40_crc.md rules R131 and R136) -/

theorem crcShifts_eq_iterate (n : Nat) : crcShifts n = crcShift^[n] := by
  induction n with
  | zero => rfl
  | succ n ih => funext c; exact congrFun ih (crcShift c)

theorem crcShifts_injective (n : Nat) : Function.Injective (crcShifts n) := by
  rw [crcShifts_eq_iterate]
  exact crcShift_injective.iterate n

theorem crcShifts_xor (n : Nat) (c d : Half) :
    crcShifts n (c ^^^ d) = crcShifts n c ^^^ crcShifts n d := by
  induction n generalizing c d with
  | zero => rfl
  | succ n ih => simp only [crcShifts, crcShift_xor, ih]

theorem crcStep_xor (c1 c2 : Half) (b1 b2 : Byte) :
    crcStep (c1 ^^^ c2) (b1 ^^^ b2) = crcStep c1 b1 ^^^ crcStep c2 b2 := by
  have hload : (c1 ^^^ c2) ^^^ ((b1 ^^^ b2).setWidth 16 <<< 8) =
      (c1 ^^^ (b1.setWidth 16 <<< 8)) ^^^ (c2 ^^^ (b2.setWidth 16 <<< 8)) := by
    rw [BitVec.setWidth_xor, BitVec.shiftLeft_xor_distrib]
    ac_rfl
  rw [crcStep, hload, crcShifts_xor, crcStep, crcStep]

theorem crcStep_left_injective (b : Byte) : Function.Injective (crcStep · b) := by
  intro c d h
  exact (BitVec.xor_left_inj _).1 (crcShifts_injective 8 h)

theorem crcStep_right_injective (c : Half) : Function.Injective (crcStep c) := by
  intro a b h
  have hload : a.setWidth 16 <<< 8 = b.setWidth 16 <<< 8 :=
    (BitVec.xor_right_inj c).1 (crcShifts_injective 8 h)
  have hnat := congrArg BitVec.toNat hload
  simp only [BitVec.toNat_shiftLeft, BitVec.toNat_setWidth, Nat.shiftLeft_eq] at hnat
  apply BitVec.eq_of_toNat_eq
  omega

theorem crcFold_append (c : Half) (s t : List Byte) :
    crcFold c (s ++ t) = crcFold (crcFold c s) t :=
  List.foldl_append

theorem crcFold_injective (s : List Byte) : Function.Injective (crcFold · s) := by
  induction s with
  | nil => exact Function.injective_id
  | cons b s ih => exact ih.comp (crcStep_left_injective b)

theorem crcFold_xor (c d : Half) {s t : List Byte} (h : s.length = t.length) :
    crcFold (c ^^^ d) (List.zipWith (· ^^^ ·) s t) = crcFold c s ^^^ crcFold d t := by
  induction s generalizing c d t with
  | nil =>
    obtain rfl := List.length_eq_zero_iff.1 h.symm
    rfl
  | cons a s ih =>
    obtain ⟨b, t, rfl⟩ := List.exists_cons_of_length_eq_add_one h.symm
    have hstep := crcStep_xor c d a b
    have hrest := ih (crcStep c a) (crcStep d b) (Nat.succ.inj h)
    rw [← hstep] at hrest
    exact hrest

/-- Settles O15: both parts are the linearity of one shift, carried through the eight shifts of a byte and
the bytes of a sequence; the two seeds cancel. -/
theorem crcIsLinear : Obligations.CrcIsLinear := by
  refine ⟨crcStep_xor, fun s t hlen => ?_⟩
  have hseed : crcSeed ^^^ crcSeed = 0x0000#16 := BitVec.xor_self
  rw [← hseed, crcFold_xor _ _ hlen]
  rfl

/-- Settles O17: the two sequences agree up to the corrupted byte; folding that byte makes the registers
differ, and folding the rest, which is injective in the register, keeps them different. -/
theorem singleByteCorruptionChangesCrc : Obligations.SingleByteCorruptionChangesCrc := by
  intro s i b hi hne hcrc
  rw [List.getD_eq_getElem s _ hi] at hne
  have hcorrupt : crc16 (s.set i b) =
      crcFold (crcStep (crc16 (s.take i)) b) (s.drop (i + 1)) := by
    rw [List.set_eq_take_append_cons_drop, if_pos hi]
    exact crcFold_append _ _ _
  have horiginal : crc16 s = crcFold (crcStep (crc16 (s.take i)) s[i]) (s.drop (i + 1)) := by
    conv_lhs => rw [← List.take_append_drop i s, List.drop_eq_getElem_cons hi]
    exact crcFold_append _ _ _
  rw [hcorrupt, horiginal] at hcrc
  exact hne (crcStep_right_injective _ (crcFold_injective _ hcrc)).symm

/-! ### The register as a number (40_crc.md rule R131) -/

/-- One round of the bit loop over numbers: double modulo 65536, XOR the polynomial after a top bit 1. -/
def crcRound (r : Nat) : Nat :=
  if r.testBit 15 then (2 * r % 65536) ^^^ 0x1021 else 2 * r % 65536

theorem toNat_crcShift (c : Half) : (crcShift c).toNat = crcRound c.toNat := by
  have htop : c.msb = c.toNat.testBit 15 := BitVec.msb_eq_getLsbD_last c
  have hdouble : (c <<< 1).toNat = 2 * c.toNat % 65536 := by
    rw [BitVec.toNat_shiftLeft, Nat.shiftLeft_eq, Nat.mul_comm]
  rw [crcShift, crcRound, htop, ← hdouble]
  split
  · exact BitVec.toNat_xor ..
  · rfl

theorem toNat_crcShifts (n : Nat) (c : Half) :
    (crcShifts n c).toNat = Nat.repeat crcRound n c.toNat := by
  induction n with
  | zero => rfl
  | succ n ih =>
    rw [crcShifts_eq_iterate] at ih ⊢
    rw [Function.iterate_succ_apply', toNat_crcShift, ih]
    rfl

/-- The byte enters at the upper half of the register. -/
theorem toNat_xor_shiftLeft_byte (c : Half) (b : Byte) :
    (c ^^^ (b.setWidth 16 <<< 8)).toNat = c.toNat ^^^ (b.toNat * 256) := by
  have hbyte : (b.setWidth 16 <<< 8 : Half).toNat = b.toNat * 256 := by
    rw [BitVec.toNat_shiftLeft, BitVec.toNat_setWidth, Nat.shiftLeft_eq]
    omega
  rw [BitVec.toNat_xor, hbyte]

/-- Settles O16: a shift of the register is a round of the loop over numbers, so eight are eight. -/
theorem crcStepIsTheBitLoop : Obligations.CrcStepIsTheBitLoop := by
  intro c b
  rw [crcStep, toNat_crcShifts, toNat_xor_shiftLeft_byte]
  rfl

end Sys2Proof.Proofs

namespace Sys2Proof.Proofs

open Sys2Proof.Machine Sys2Proof.Laws

/-! ### What ignores CRC_REG (40_crc.md rule R140) -/

/-- The state with another value in CRC_REG. -/
def withCrcReg (c : Half) (s : State) : State := { s with crcReg := c }

/-- CRC_REG makes no difference to a meaning and passes through it. -/
def IgnoresCrcReg (meaning : State → Host.Outcome State Fault Refusal) : Prop :=
  ∀ (c : Half) (s t : State), meaning s = .next t →
    meaning (withCrcReg c s) = .next (withCrcReg c t)

/-- A meaning that ignores CRC_REG keeps it: run it with the value that the register has already. -/
theorem IgnoresCrcReg.crcReg_eq {meaning : State → Host.Outcome State Fault Refusal}
    (h : IgnoresCrcReg meaning) {s t : State} (hnext : meaning s = .next t) :
    t.crcReg = s.crcReg := by
  have hsame : meaning s = .next (withCrcReg s.crcReg t) := h s.crcReg s t hnext
  rw [hnext] at hsame
  injection hsame with ht
  rw [ht, withCrcReg]

theorem ignoresCrcReg_of_commutes {f : State → State}
    (h : ∀ c s, f (withCrcReg c s) = withCrcReg c (f s)) :
    IgnoresCrcReg fun s => .next (f s) := by
  intro c s t hnext
  injection hnext with ht
  exact congrArg Host.Outcome.next (by rw [h, ht])

/-! ### The framer's operations ignore CRC_REG -/

section Framer

variable (c : Half) (s : State)

theorem tryHeader_withCrcReg : (withCrcReg c s).tryHeader = withCrcReg c s.tryHeader := by
  have hrxq : (withCrcReg c s).rxq = s.rxq := rfl
  unfold State.tryHeader
  rw [hrxq]
  cases s.rxq with
  | nil => rfl
  | cons t rest =>
    simp only [apply_ite (withCrcReg c)]
    rfl

theorem commit_withCrcReg : (withCrcReg c s).commit = withCrcReg c s.commit := by
  have hgeom : (withCrcReg c s).captureGeometry = withCrcReg c s.captureGeometry := by
    rw [State.captureGeometry, State.captureGeometry, apply_ite (withCrcReg c)]
    rfl
  rw [State.commit, hgeom]
  rfl

theorem afterCommit_withCrcReg : (withCrcReg c s).afterCommit = withCrcReg c s.afterCommit := by
  rw [State.afterCommit, State.afterCommit, apply_ite (withCrcReg c)]
  rfl

theorem checkStep_withCrcReg : checkStep (withCrcReg c s) = withCrcReg c (checkStep s) := by
  simp only [checkStep, apply_ite (withCrcReg c), ← commit_withCrcReg, ← afterCommit_withCrcReg]
  rfl

theorem prefixStep_withCrcReg (pre : List Byte) :
    prefixStep pre (withCrcReg c s) = withCrcReg c (prefixStep pre s) := by
  rw [prefixStep, prefixStep, apply_ite (withCrcReg c)]
  rfl

theorem payloadStep_withCrcReg (pay : List Byte) :
    payloadStep pay (withCrcReg c s) = withCrcReg c (payloadStep pay s) := by
  rw [payloadStep, payloadStep, apply_ite (withCrcReg c)]
  rfl

theorem loopStep_withCrcReg : loopStep (withCrcReg c s) = withCrcReg c (loopStep s) := by
  have hphase : (withCrcReg c s).frPhase = s.frPhase := rfl
  unfold loopStep
  rw [hphase]
  cases s.frPhase with
  | none => rfl
  | readPrefix => exact prefixStep_withCrcReg c (s.rxRead 4).2 (s.rxRead 4).1
  | readPayload => exact payloadStep_withCrcReg c (s.rxRead s.pktLen.toNat).2 (s.rxRead s.pktLen.toNat).1
  | checkPacket => exact checkStep_withCrcReg c s
  | retryWait => rfl

theorem blockStep_withCrcReg : blockStep (withCrcReg c s) = withCrcReg c (blockStep s) := by
  rw [blockStep, blockStep, apply_ite (withCrcReg c), loopStep_withCrcReg]
  rfl

end Framer

/-! ### The framer's commands ignore CRC_REG -/

theorem ignoresCrcReg_frTryHeader : IgnoresCrcReg (exec .frTryHeader) := by
  refine ignoresCrcReg_of_commutes (fun c s => ?_)
  rw [apply_ite (withCrcReg c), tryHeader_withCrcReg]
  rfl

theorem ignoresCrcReg_frReadMessage : IgnoresCrcReg (exec .frReadMessage) := by
  intro c s t hnext
  have hstate : (withCrcReg c s).sessionState = s.sessionState := rfl
  simp only [exec, execFrReadMessage, hstate] at hnext ⊢
  cases hs : s.sessionState with
  | payloadRead => simp [hs] at hnext
  | idle | aborted | complete | headerRead =>
    simp only [hs] at hnext ⊢
    injection hnext with ht
    rw [← ht]
    rfl

theorem ignoresCrcReg_frMsgRead (addr : Nat) : IgnoresCrcReg (exec (.frMsgRead addr)) := by
  refine ignoresCrcReg_of_commutes (fun c s => ?_)
  rw [apply_ite (withCrcReg c)]
  rfl

/-- The framer's commands, as the statement of rule R140 lists them. -/
def IsFramerCommand (i : Instr) : Prop :=
  i ∈ [Instr.frTryHeader, .frReadMessage, .frFlush, .frCurrent, .frStatus, .frPkt, .frMsgLen] ∨
    ∃ addr, i = .frMsgRead addr

theorem ignoresCrcReg_of_isFramerCommand {i : Instr} (h : IsFramerCommand i) :
    IgnoresCrcReg (exec i) := by
  simp only [IsFramerCommand, List.mem_cons, List.not_mem_nil, or_false] at h
  obtain (rfl | rfl | rfl | rfl | rfl | rfl | rfl) | ⟨addr, rfl⟩ := h
  · exact ignoresCrcReg_frTryHeader
  · exact ignoresCrcReg_frReadMessage
  · exact ignoresCrcReg_of_commutes fun _ _ => rfl
  · exact ignoresCrcReg_of_commutes fun _ _ => rfl
  · exact ignoresCrcReg_of_commutes fun _ _ => rfl
  · exact ignoresCrcReg_of_commutes fun _ _ => rfl
  · exact ignoresCrcReg_of_commutes fun _ _ => rfl
  · exact ignoresCrcReg_frMsgRead addr

theorem ignoresCrcReg_blockStep : IgnoresCrcReg fun s => .next (blockStep s) :=
  ignoresCrcReg_of_commutes blockStep_withCrcReg

/-- Settles O19: that the framer ignores CRC_REG gives both that it keeps the register and that it does not
read it; each CRC command is one update of the state. -/
theorem crcUnitAndFramerAreIndependent : Obligations.CrcUnitAndFramerAreIndependent := by
  refine ⟨fun s t i hi hnext => ?_, fun s => ?_, fun s c i hi t hnext => ?_, fun s c => ?_,
    fun i hi => ?_⟩
  · exact (ignoresCrcReg_of_isFramerCommand hi).crcReg_eq hnext
  · exact ignoresCrcReg_blockStep.crcReg_eq rfl
  · exact ignoresCrcReg_of_isFramerCommand hi c s t hnext
  · exact blockStep_withCrcReg c s
  · obtain rfl | rfl | ⟨d8, rfl⟩ := hi
    · exact ⟨fun _ => crcSeed, fun _ => crcSeed.setWidth 32, fun _ => rfl⟩
    · exact ⟨id, fun r => r.setWidth 32, fun _ => rfl⟩
    · exact ⟨(crcStep · d8), fun r => (crcStep r d8).setWidth 32, fun _ => rfl⟩

end Sys2Proof.Proofs

namespace Sys2Proof.Proofs

open Sys2Proof.Machine Sys2Proof.Laws

/-! ### The fields of an AnimationFrames payload as numbers (30_encoding.md rule R107) -/

theorem frameBpf_toNat (s : List Byte) :
    (frameBpf s).toNat = (s.getD 2 0#8).toNat + 256 * (s.getD 3 0#8).toNat :=
  u16le_toNat s 2

/-- A geometry is that of a payload when it agrees with the three fields, the little-endian one
read as a number. -/
theorem frameGeometry_eq_iff (g : Geometry) (s : List Byte) :
    frameGeometry s = g ↔
      g.bpf.toNat = (s.getD 2 0#8).toNat + 256 * (s.getD 3 0#8).toNat ∧
        g.rows = s.getD 4 0#8 ∧ g.cols = s.getD 5 0#8 := by
  obtain ⟨bpf, rows, cols⟩ := g
  rw [frameGeometry, Geometry.mk.injEq, ← frameBpf_toNat, ← BitVec.toNat_inj]
  exact and_congr eq_comm (and_congr eq_comm eq_comm)

/-! ### Validation, type by type (41_framer.md rules R171 to R176) -/

section Validation

variable (g : Geometry) (s : List Byte) (k : Half)

theorem validPacket_gameOfLife_iff :
    validPacket g typeGameOfLife s k = true ↔ 2 ≤ s.length ∧ (s.length - 2) % 2 = 0 :=
  decide_eq_true_iff

theorem validPacket_command_iff :
    validPacket g typeCommand s k = true ↔
      s.length = 1 ∧ 1 ≤ (commandCode s).toNat ∧ (commandCode s).toNat ≤ 4 :=
  decide_eq_true_iff

theorem validPacket_animation_iff :
    validPacket g typeAnimation s k = true ↔
      9 ≤ s.length ∧ 9 + (frameBpf s).toNat ≤ s.length ∧
        (frameRows s).toNat * ceil8 (frameCols s).toNat ≤ (frameBpf s).toNat ∧
        (k = 0#16 ∨ frameGeometry s = g) := by
  rw [validPacket, if_pos rfl]
  simp only [frameHasFixedPart, frameIsTransmitted, frameBitmapFits, frameSharesGeometry,
    Bool.and_eq_true, decide_eq_true_iff, and_assoc]

end Validation

/-- Settles O29: one equivalence per type; the frame's fields are then read as numbers. -/
theorem validPacketIsTheConjunctionOfTheChecks :
    Obligations.ValidPacketIsTheConjunctionOfTheChecks := by
  intro g s k
  refine ⟨validPacket_gameOfLife_iff g s k, validPacket_command_iff g s k, ?_⟩
  rw [← frameGeometry_eq_iff, ← frameBpf_toNat]
  exact validPacket_animation_iff g s k

/-! ### The framer's two session commands, case by case (41_framer.md rules R156, R157, R161, R183) -/

section SessionCommands

variable {s : State}

theorem holdsMessage_iff :
    s.holdsMessage = true ↔ s.sessionState = .headerRead ∨ s.sessionState = .complete := by
  rw [State.holdsMessage]
  cases s.sessionState <;> decide

theorem exec_frTryHeader_of_held (h : s.sessionState = .headerRead ∨ s.sessionState = .complete) :
    exec .frTryHeader s = .next (s.respond resInternalError 0#32) := by
  rw [exec, execFrTryHeader, if_pos (holdsMessage_iff.2 h)]

theorem exec_frTryHeader_of_not_held (h : s.sessionState = .idle ∨ s.sessionState = .aborted) :
    exec .frTryHeader s = .next s.tryHeader := by
  have hnone : ¬ s.holdsMessage = true := by
    rw [holdsMessage_iff]
    obtain h | h := h <;> simp [h]
  rw [exec, execFrTryHeader, if_neg hnone]

theorem exec_frReadMessage_of_no_session (h : s.sessionState = .idle ∨ s.sessionState = .aborted) :
    exec .frReadMessage s =
      .next ((s.txSend resInternalError).respond resInternalError 0#32) := by
  obtain h | h := h <;> simp only [exec, execFrReadMessage, h]

theorem exec_frReadMessage_of_complete (h : s.sessionState = .complete) :
    exec .frReadMessage s = .next (s.ok (s.pktIndex.setWidth 32)) := by
  simp only [exec, execFrReadMessage, h]

end SessionCommands

/-- Settles O20: in each case the command is one response, preceded in the second by one sent byte. -/
theorem internalErrorCases : Obligations.InternalErrorCases :=
  ⟨fun _ hheld => exec_frTryHeader_of_held hheld,
    fun _ hnone => exec_frReadMessage_of_no_session hnone⟩

/-- Settles O25: in COMPLETE the command is one Ok response. -/
theorem readMessageInCompleteHasNoEffect : Obligations.ReadMessageInCompleteHasNoEffect :=
  fun _ hcomplete => exec_frReadMessage_of_complete hcomplete

/-! ### The rejected headers (41_framer.md rules R158 and R159) -/

section Rejection

variable {s : State} {rest : List Byte}

/-- Rejecting a header whose bytes are consumed, as one update of the state. -/
theorem rejectHeader_consume (s : State) (n : Nat) :
    (s.consume n).rejectHeader = { s with
      rxq := s.rxq.drop n, txq := s.txq ++ [0x05#8], lastResult := 0x05#8, sessionState := .idle,
      response := some ⟨0x05#8, 0#32⟩, busy := false } := rfl

theorem tryHeader_of_no_packets (h : s.rxq = [0x10#8, 0x00#8, 0x00#8] ++ rest) :
    s.tryHeader = (s.consume 3).rejectHeader := by
  have hwhole : ¬ s.rxq.length < headerLen 0x10#8 := by simp [h, headerLen]
  have hcount : u16le s.rxq 1 = 0#16 := by
    rw [h]
    exact u16le_u16Bytes [0x10#8] rest 0#16
  rw [h] at hwhole hcount
  rw [State.tryHeader, h]
  exact (if_neg hwhole).trans ((if_pos rfl).trans (if_pos hcount))

theorem tryHeader_of_unknown_type {t : Byte} (h : s.rxq = t :: rest)
    (hanim : t ≠ typeAnimation) (hlife : t ≠ typeGameOfLife) (hcommand : t ≠ typeCommand) :
    s.tryHeader = (s.consume 1).rejectHeader := by
  have hwhole : ¬ s.rxq.length < headerLen t := by simp [h, headerLen, hanim]
  have hunknown : ¬ (t = typeGameOfLife ∨ t = typeCommand) := not_or.2 ⟨hlife, hcommand⟩
  rw [h] at hwhole
  rw [State.tryHeader, h]
  exact (if_neg hwhole).trans ((if_neg hanim).trans (if_neg hunknown))

end Rejection

/-- Settles O22: either header is consumed and rejected; what it leaves of RXQ is read off. -/
theorem rejectedHeaders : Obligations.RejectedHeaders := by
  constructor
  · intro s rest hnone hrxq
    rw [exec_frTryHeader_of_not_held hnone, tryHeader_of_no_packets hrxq, rejectHeader_consume,
      hrxq]
    rfl
  · intro s t rest hnone hrxq hanim hlife hcommand
    rw [exec_frTryHeader_of_not_held hnone,
      tryHeader_of_unknown_type hrxq hanim hlife hcommand, rejectHeader_consume, hrxq]
    rfl

end Sys2Proof.Proofs

namespace Sys2Proof.Proofs

open Sys2Proof.Machine Sys2Proof.Laws

/-! ### The persistence invariant (42_framebuffer.md rule R242) -/

section Persistence

variable {s t : State} {c : Pixel} {pick : Pixel → Bool}

/-- A clear with p = 0 spares CUR where PERS is set, whatever it picks. -/
theorem clearCells_false_keeps_sticky (hsticky : s.pixel .pers c = true) :
    (s.clearCells false pick).pixel .cur c = s.pixel .cur c := by
  rw [pixel_clearCells, hsticky]
  simp

/-- A clear with p = 1 leaves CUR and PERS 0 on each cell it picks. -/
theorem clearCells_true_of_pick (hpick : pick c = true) :
    (s.clearCells true pick).pixel .cur c = false ∧
      (s.clearCells true pick).pixel .pers c = false := by
  rw [pixel_clearCells, pixel_clearCells, hpick]
  simp

/-- Every bit of every plane after FB_CLEAR is that of the clear of the screen's cells. -/
theorem pixel_of_exec_fbClear {p : Bool} (hnext : exec (.fbClear p) s = .next t) (q : PlaneId) :
    t.pixel q c = (s.clearCells p (onScreen s.params)).pixel q c := by
  injection hnext with ht
  rw [← ht, ok_pixel]

/-- Every bit of every plane after FB_CLEAR_REGION is that of the clear of the region's cells. -/
theorem pixel_of_exec_fbClearRegion {p : Bool} {x y : Int} {wd ht : Nat}
    (hnext : exec (.fbClearRegion p x y wd ht) s = .next t) (q : PlaneId) :
    t.pixel q c = (s.clearCells p (inRegion s.params x y wd ht)).pixel q c := by
  injection hnext with heq
  rw [← heq, ok_pixel]

/-- Where FB_UNSET CUR does write a bit, PERS is 0, so the bit is not that of a sticky cell. -/
theorem exec_fbUnset_cur_keeps_sticky {x y : Int} (hsticky : s.pixel .pers c = true)
    (hnext : exec (.fbUnset .cur x y) s = .next t) : t.pixel .cur c = s.pixel .cur c := by
  injection hnext with ht
  rw [← ht, ok_pixel]
  split
  · split
    · rfl
    · rename_i hnotSticky
      have hother : c ≠ pixelAt x y := by
        rintro rfl
        exact hnotSticky ⟨rfl, hsticky⟩
      rw [pixel_writePixel, if_neg fun hcell => hother hcell.2]
  · rfl

end Persistence

/-- Settles O43: an unset of CUR and a clear with p = 0 spare a sticky cell; a clear with p = 1 zeroes each
cell it picks, and the cells picked are those that the statement names. -/
theorem persistenceInvariantHolds : Obligations.PersistenceInvariantHolds := by
  refine ⟨?_, ?_, ?_⟩
  · rintro s t i c hsticky (⟨x, y, rfl⟩ | rfl | ⟨x, y, wd, ht, rfl⟩) hnext
    · exact exec_fbUnset_cur_keeps_sticky hsticky hnext
    · rw [pixel_of_exec_fbClear hnext, clearCells_false_keeps_sticky hsticky]
    · rw [pixel_of_exec_fbClearRegion hnext, clearCells_false_keeps_sticky hsticky]
  · intro s t c hscreen hnext
    rw [pixel_of_exec_fbClear hnext, pixel_of_exec_fbClear hnext]
    exact clearCells_true_of_pick ((onScreen_iff _ c).2 hscreen)
  · rintro s t x y wd ht c hscreen ⟨hcolumns, hrows⟩ hnext
    rw [pixel_of_exec_fbClearRegion hnext, pixel_of_exec_fbClearRegion hnext]
    exact clearCells_true_of_pick ((inRegion_iff _ x y wd ht c).2 ⟨hcolumns, hrows, hscreen⟩)

end Sys2Proof.Proofs

namespace Sys2Proof.Proofs

open Sys2Proof.Machine Sys2Proof.Laws

/-! ### The words of a command of format N (30_encoding.md rules R91 and R113) -/

theorem decodeAs_eq_instr_iff (f : Format) (w : Command) (i j : Instr) :
    decodeAs f w i = .instr j ↔ fitsFormat f w = true ∧ i = j := by
  cases hfits : fitsFormat f w <;> simp [decodeAs, hfits]

theorem decodePlane_eq_instr_iff (w : Command) (i : PlaneId → Instr) (j : Instr) :
    decodePlane w i = .instr j ↔
      fitsFormat .P w = true ∧ ∃ pl, planeOfCode (fieldPl w) = some pl ∧ i pl = j := by
  cases hfits : fitsFormat .P w with
  | false => simp [decodePlane, hfits]
  | true => cases hplane : planeOfCode (fieldPl w) <;> simp [decodePlane, hfits, hplane]

/-- The decoder never answers a command of another opcode. -/
theorem fieldOp_of_decode {w : Command} {i : Instr} (h : decode w = .instr i) :
    fieldOp w = i.opcode := by
  unfold decode at h
  split at h
  case h_13 hop | h_14 hop | h_15 hop | h_22 hop =>
    obtain ⟨-, pl, -, rfl⟩ := (decodePlane_eq_instr_iff _ _ _).1 h
    exact BitVec.eq_of_toNat_eq hop
  case h_26 => cases h
  all_goals
    rename_i hop
    obtain ⟨-, rfl⟩ := (decodeAs_eq_instr_iff _ _ _ _).1 h
    exact BitVec.eq_of_toNat_eq hop

/-- Format N leaves no bit free above OP. -/
theorem fitsFormat_N_iff (w : Command) : fitsFormat .N w = true ↔ w = encodeN (fieldOp w) := by
  have hmask : w &&& Format.N.mask = w := BitVec.and_allOnes
  have hword : encodeN (fieldOp w) = (fieldOp w).setWidth 64 :=
    (BitVec.setWidth_eq_append (by decide)).symm
  rw [fitsFormat_iff, hmask, hword]

/-- A command that the decoder reads by format N has exactly one word. -/
theorem decode_eq_instr_iff_of_formatN {i : Instr}
    (hrow : ∀ w, fieldOp w = i.opcode → decode w = decodeAs .N w i) (w : Command) :
    decode w = .instr i ↔ w = encodeN i.opcode := by
  constructor
  · intro h
    have hop := fieldOp_of_decode h
    rw [hrow w hop, decodeAs_eq_instr_iff, fitsFormat_N_iff, hop] at h
    exact h.1
  · rintro rfl
    have hop : fieldOp (encodeN i.opcode) = i.opcode := fieldOp_append _ _
    rw [hrow _ hop, decodeAs_eq_instr_iff, fitsFormat_N_iff, hop]
    exact ⟨rfl, rfl⟩

theorem decode_of_fieldOp_nop {w : Command} (hop : fieldOp w = 0x00#8) :
    decode w = decodeAs .N w .nop := by
  simp [decode, hop]

theorem decode_of_fieldOp_errRead {w : Command} (hop : fieldOp w = 0x30#8) :
    decode w = decodeAs .N w .errRead := by
  simp [decode, hop]

theorem decode_eq_nop_iff (w : Command) : decode w = .instr .nop ↔ w = 0#64 :=
  decode_eq_instr_iff_of_formatN (fun _ => decode_of_fieldOp_nop) w

theorem decode_eq_errRead_iff (w : Command) : decode w = .instr .errRead ↔ w = 0x30#64 :=
  decode_eq_instr_iff_of_formatN (fun _ => decode_of_fieldOp_errRead) w

/-- What has the opcode of NOP and is not its word has a bit set that format N reserves. -/
theorem decode_illegal_of_fieldOp_nop {w : Command} (hop : fieldOp w = 0x00#8) (hw : w ≠ 0#64) :
    decode w = .illegal .nonzeroReservedBit := by
  have hfits : ¬ fitsFormat .N w = true := by
    rw [fitsFormat_N_iff, hop]
    exact hw
  rw [decode_of_fieldOp_nop hop, decodeAs, if_neg hfits]

/-! ### NOP and ERR_READ (43_control.md rules R280 and R281) -/

/-- Settles O11: the response is one update of the state, and the words are those of format N; the word
0x100 has the opcode of NOP and is not its word. -/
theorem nopOnlyResponds : Obligations.NopOnlyResponds := by
  refine ⟨fun _ => rfl, fun w hop => ⟨decode_eq_nop_iff w, decode_illegal_of_fieldOp_nop hop⟩, ?_⟩
  intro s rest hagenda hfree
  have hillegal : decode 0x0000000000000100#64 = .illegal .nonzeroReservedBit :=
    decode_illegal_of_fieldOp_nop (by decide) (by decide)
  rw [step_of_command hagenda hfree, runWord_of_illegal hillegal]
  exact ⟨_, rfl, raise_response _ .illegal⟩

/-- The ERR view holds the two bits of ERR that exist, and 0 above them (10_state.md rule R24). -/
theorem errView_eq (s : State) : s.errView =
    (if s.err.getLsbD 0 then 1#32 else 0#32) ||| (if s.err.getLsbD 1 then 2#32 else 0#32) := by
  have hbits : errMask.setWidth 32 = BitVec.twoPow 32 0 ||| BitVec.twoPow 32 1 := rfl
  rw [State.errView, State.readErr, BitVec.setWidth_and, hbits, BitVec.and_or_distrib_left,
    BitVec.and_twoPow, BitVec.and_twoPow]
  simp [BitVec.twoPow_eq]

/-- Settles O12: ERR_READ has the one word of format N, and its answer is the ERR view; ERR is 0 after
reset. -/
theorem errReadAnswersErr : Obligations.ErrReadAnswersErr := by
  have hexec : ∀ s : State, exec .errRead s = .next (s.ok s.errView) := fun _ => rfl
  refine ⟨decode_eq_errRead_iff, fun s => ?_, hexec State.reset⟩
  rw [hexec, errView_eq]
  rfl

end Sys2Proof.Proofs

namespace Sys2Proof.Proofs

open Sys2Proof.Machine Sys2Proof.Laws

/-! ### The reads that raise Bounds (60_exceptions.md rule R304) -/

section Bounds

variable {s : State} {pl : PlaneId} {x y : Int}

theorem exec_fbIsSet_of_not_inB (h : ¬ InB s.params x y) :
    exec (.fbIsSet pl x y) s = .next (s.raise .bounds) := by
  rw [exec, execFbIsSet, if_neg h]

theorem exec_fbIsDirty_of_not_inB (h : ¬ InB s.params x y) :
    exec (.fbIsDirty x y) s = .next (s.raise .bounds) := by
  rw [exec, execFbIsDirty, if_neg h]

theorem exec_fbReadRow8_of_not_inRowView {xb : Int} (h : ¬ InRowView s.params xb y) :
    exec (.fbReadRow8 pl xb y) s = .next (s.raise .bounds) := by
  rw [exec, execFbReadRow8, if_neg h]

theorem exec_frMsgRead_of_not_held {addr : Nat}
    (h : s.sessionState ≠ .headerRead ∧ s.sessionState ≠ .complete) :
    exec (.frMsgRead addr) s = .next (s.raise .bounds) := by
  have hnone : ¬ s.holdsMessage = true := by rwa [holdsMessage_iff, not_or]
  rw [exec, execFrMsgRead, if_neg fun hread => hnone hread.1]

theorem exec_frMsgRead_of_msgLen_le {addr : Nat} (h : s.msgLen.toNat ≤ addr) :
    exec (.frMsgRead addr) s = .next (s.raise .bounds) := by
  rw [exec, execFrMsgRead, if_neg fun hread => hread.2.not_ge h]

end Bounds

/-- Settles O37: each case is the raise of Bounds, whose effect is `raise_eq`. -/
theorem boundsHasExactlyItsEffects : Obligations.BoundsHasExactlyItsEffects := by
  intro s i hcase
  have hraise : exec i s = .next (s.raise .bounds) := by
    obtain ⟨pl, x, y, rfl, hout⟩ | ⟨x, y, rfl, hout⟩ | ⟨pl, xb, y, rfl, hout⟩ |
      ⟨addr, rfl, hnone | hpast⟩ := hcase
    · exact exec_fbIsSet_of_not_inB hout
    · exact exec_fbIsDirty_of_not_inB hout
    · exact exec_fbReadRow8_of_not_inRowView hout
    · exact exec_frMsgRead_of_not_held hnone
    · exact exec_frMsgRead_of_msgLen_le hpast
  rw [hraise, raise_eq]
  rfl

end Sys2Proof.Proofs

namespace Sys2Proof.Proofs

open Sys2Proof.Machine Sys2Proof.Laws

/-! ### The cancellation (70_reset_and_hazards.md rule R360) -/

section Cancellation

variable {s t : State} {rest : List Move}

/-- A run goes on from what the command at the front of the agenda answers, when the port is free. -/
theorem run_succ_of_command {i : Instr} (k : Nat) (hagenda : s.agenda = .command (encode i) :: rest)
    (hfree : s.busy = false) (hdecode : decode (encode i) = .instr i)
    (hexec : exec i (s.accept rest) = .next t) :
    Host.Core.run Sys2Proof.core (k + 1) s = Host.Core.run Sys2Proof.core k t := by
  have hstep : step s = .next t := by
    rw [step_of_command hagenda hfree, runWord, hdecode]
    exact hexec
  exact run_succ k hstep

/-- A plane with no bit off the screen is empty once the screen's cells are cleared. -/
theorem clearIf_onScreen_eq_nil {p : Params} {plane : PixelPlane}
    (hscreen : ∀ c ∈ plane, onScreen p c = true) : plane.clearIf (onScreen p) = [] := by
  simpa [PixelPlane.clearIf] using hscreen

/-- FB_CLEAR 1 empties CUR and PERS (42_framebuffer.md rule R234). -/
theorem exec_fbClear_true (hcur : ∀ c ∈ s.planeCur, onScreen s.params c = true)
    (hpers : ∀ c ∈ s.planePers, onScreen s.params c = true) :
    exec (.fbClear true) s = .next ({ s with planeCur := [], planePers := [] }.ok 0#32) := by
  rw [exec, execFbClear, State.clearCells, if_pos rfl, clearIf_onScreen_eq_nil hcur,
    clearIf_onScreen_eq_nil hpers]

/-- No cell is dirty when PREV equals CUR (42_framebuffer.md rule R239). -/
theorem dirtyCount_eq_zero (hplanes : s.planePrev = s.planeCur) : s.dirtyCount = 0 := by
  have hclean : ∀ c, s.dirty c = false := by
    simp [State.dirty, State.pixel, State.plane, hplanes]
  simp [State.dirtyCount, hclean]

/-- With PREV equal to CUR, FB_DIRTY_COUNT answers 0. -/
theorem exec_fbDirtyCount_of_planes_eq (hplanes : s.planePrev = s.planeCur) :
    exec .fbDirtyCount s = .next (s.ok 0#32) := by
  rw [exec, execFbDirtyCount, dirtyCount_eq_zero hplanes]

/-- The state that rule R360's three commands leave: no message, three empty planes, and all else but the
port's own fields as it was. -/
def cancelled (s : State) (rest : List Move) : State :=
  { s with
    sessionState := .idle, sessionType := 0x00#8, pktCount := 0#16, pktIndex := 0#16, msgLen := 0#25,
    planeCur := [], planePrev := [], planePers := [],
    response := some ⟨0x01#8, 0#32⟩, busy := false, agenda := rest }

@[simp] theorem cancelled_pixel (pl : PlaneId) (c : Pixel) :
    (cancelled s rest).pixel pl c = false := by
  cases pl <;> rfl

/-- FR_FLUSH releases the message, FB_CLEAR 1 empties CUR and PERS, and FB_ADVANCE_ALL copies the empty
CUR to PREV. -/
theorem run_cancellation (k : Nat) (hinv : s.Inv) (hfree : s.busy = false)
    (hagenda : s.agenda = .command (encode .frFlush) :: .command (encode (.fbClear true)) ::
      .command (encode .fbAdvanceAll) :: rest) :
    Host.Core.run Sys2Proof.core (k + 3) s = Host.Core.run Sys2Proof.core k (cancelled s rest) := by
  have hcur : ∀ c ∈ s.planeCur, onScreen s.params c = true := fun c hc =>
    hinv.planesOnScreen c (by simp [hc])
  have hpers : ∀ c ∈ s.planePers, onScreen s.params c = true := fun c hc =>
    hinv.planesOnScreen c (by simp [hc])
  calc Host.Core.run Sys2Proof.core (k + 3) s
    _ = _ := run_succ_of_command (k + 2) hagenda hfree (by decide) rfl
    _ = _ := run_succ_of_command (k + 1) rfl rfl (by decide) (exec_fbClear_true hcur hpers)
    _ = _ := run_succ_of_command k rfl rfl (by decide) rfl

end Cancellation

/-- Settles O49: the three commands lead to `cancelled`, where CUR and PREV agree, so that FB_DIRTY_COUNT
answers 0. -/
theorem cancellationClearsEverything : Obligations.CancellationClearsEverything := by
  intro s rest hinv hfree hagenda
  have hcancel := run_cancellation 1 hinv hfree hagenda
  have hcount := run_succ_of_command 0 (s := cancelled s (.command (encode .fbDirtyCount) :: rest))
    rfl rfl (by decide) (exec_fbDirtyCount_of_planes_eq rfl)
  refine ⟨_, hcancel.trans hcount, rfl, rfl, rfl, rfl, rfl, fun pl c => ?_, rfl⟩
  rw [ok_pixel, accept_pixel, cancelled_pixel]

end Sys2Proof.Proofs

namespace Sys2Proof.Proofs

open Sys2Proof.Machine Sys2Proof.Laws

/-! ### Fields of a word (30_encoding.md rules R91 to R98) -/

section Fields

variable (op : Byte)

/-- Above its 8 bits the opcode is 0. -/
theorem extractLsb'_setWidth_op {start len : Nat} (h : 8 ≤ start) :
    (op.setWidth 64).extractLsb' start len = 0#len := by
  apply BitVec.eq_of_getLsbD_eq
  intro i _
  rw [BitVec.getLsbD_extractLsb', BitVec.getLsbD_setWidth, BitVec.getLsbD_of_ge op _ (by omega)]
  simp

/-- A field that the mask of a word's format covers is 0. -/
theorem extractLsb'_of_fitsFormat {f : Format} {w : Command} (hfits : fitsFormat f w = true)
    (start len : Nat) (habove : 8 ≤ start)
    (hmask : f.mask.extractLsb' start len = BitVec.allOnes len) :
    w.extractLsb' start len = 0#len := by
  have h := congrArg (BitVec.extractLsb' start len) ((fitsFormat_iff f w).1 hfits)
  rwa [extractLsb'_setWidth_op _ habove, BitVec.extractLsb'_and, hmask, BitVec.and_allOnes] at h

/-- A word fits a format when the mask leaves nothing of the bits above its opcode. -/
theorem fitsFormat_append {f : Format} {mask hi : BitVec 56} (hmask : f.mask = mask ++ 0xFF#8)
    (hzero : hi &&& mask = 0#56) : fitsFormat f (hi ++ op) = true := by
  have hop : op &&& 0xFF#8 = op := BitVec.and_allOnes
  have hword : (0#56 ++ op : Command) = op.setWidth 64 :=
    (BitVec.setWidth_eq_append (by decide)).symm
  rw [fitsFormat_iff, fieldOp_append, hmask, ← hword, ← hop]
  exact BitVec.and_append.trans (by rw [hzero, BitVec.and_assoc, BitVec.and_self])

end Fields

/-! ### Operands in range are carried unchanged (30_encoding.md rules R98 and R111) -/

theorem fitsS12_iff (v : Int) : fitsS12 v = true ↔ -2048 ≤ v ∧ v ≤ 2047 := decide_eq_true_iff

theorem fitsU12_iff (n : Nat) : fitsU12 n = true ↔ n < 4096 := decide_eq_true_iff

theorem fitsU24_iff (n : Nat) : fitsU24 n = true ↔ n < 16777216 := decide_eq_true_iff

/-- A signed operand that fits comes back from its 12 bits. -/
theorem toInt_ofInt_of_fitsS12 {v : Int} (h : fitsS12 v = true) :
    (BitVec.ofInt 12 v).toInt = v := by
  obtain ⟨hlow, hhigh⟩ := (fitsS12_iff v).1 h
  exact BitVec.toInt_ofInt_eq_self (by decide) (by omega) (by omega)

/-- Every 12-bit field is a signed operand that fits. -/
theorem fitsS12_toInt (v : BitVec 12) : fitsS12 v.toInt = true := by
  have hlow := BitVec.le_toInt v
  have hhigh := BitVec.toInt_lt (x := v)
  rw [fitsS12_iff]
  omega

@[simp] theorem fitsS12_fieldX (w : Command) : fitsS12 (fieldX w) = true := fitsS12_toInt _
@[simp] theorem fitsS12_fieldY (w : Command) : fitsS12 (fieldY w) = true := fitsS12_toInt _
@[simp] theorem fitsU12_fieldW (w : Command) : fitsU12 (fieldW w) = true :=
  (fitsU12_iff _).2 (BitVec.isLt _)
@[simp] theorem fitsU12_fieldH (w : Command) : fitsU12 (fieldH w) = true :=
  (fitsU12_iff _).2 (BitVec.isLt _)
@[simp] theorem fitsU24_fieldAddr (w : Command) : fitsU24 (fieldAddr w) = true :=
  (fitsU24_iff _).2 (BitVec.isLt _)

/-! ### The words of the encoder: they fit their formats and carry the operands -/

section Encoded

variable (op d8 : Byte) (pl : PlaneId) (p : Bool) (x y : Int) (wd ht addr : Nat)

@[simp] theorem fieldOp_encodeB : fieldOp (encodeB op d8) = op := fieldOp_append _ _
@[simp] theorem fieldOp_encodeP : fieldOp (encodeP op pl x y) = op := fieldOp_append _ _
@[simp] theorem fieldOp_encodeC : fieldOp (encodeC op x y) = op := fieldOp_append _ _
@[simp] theorem fieldOp_encodeK : fieldOp (encodeK op p) = op := fieldOp_append _ _
@[simp] theorem fieldOp_encodeR : fieldOp (encodeR op p x y wd ht) = op := fieldOp_append _ _
@[simp] theorem fieldOp_encodeA : fieldOp (encodeA op addr) = op := fieldOp_append _ _

@[simp] theorem fitsFormat_encodeB : fitsFormat .B (encodeB op d8) = true := by
  refine fitsFormat_append op (mask := BitVec.allOnes 40 ++ 0#8 ++ BitVec.allOnes 8) rfl ?_
  repeat rw [BitVec.and_append]
  rw [BitVec.zero_and, BitVec.and_zero, BitVec.zero_and]
  rfl

@[simp] theorem fitsFormat_encodeP : fitsFormat .P (encodeP op pl x y) = true := by
  refine fitsFormat_append op
    (mask := BitVec.allOnes 24 ++ 0#12 ++ 0#12 ++ BitVec.allOnes 6 ++ 0#2) rfl ?_
  repeat rw [BitVec.and_append]
  rw [BitVec.zero_and, BitVec.and_zero, BitVec.and_zero, BitVec.zero_and, BitVec.and_zero]
  rfl

@[simp] theorem fitsFormat_encodeC : fitsFormat .C (encodeC op x y) = true := by
  refine fitsFormat_append op
    (mask := BitVec.allOnes 24 ++ 0#12 ++ 0#12 ++ BitVec.allOnes 8) rfl ?_
  repeat rw [BitVec.and_append]
  rw [BitVec.zero_and, BitVec.and_zero, BitVec.and_zero, BitVec.zero_and]
  rfl

@[simp] theorem fitsFormat_encodeK : fitsFormat .K (encodeK op p) = true := by
  refine fitsFormat_append op (mask := BitVec.allOnes 53 ++ 0#1 ++ BitVec.allOnes 2) rfl ?_
  repeat rw [BitVec.and_append]
  rw [BitVec.zero_and, BitVec.and_zero, BitVec.zero_and]
  rfl

@[simp] theorem fitsFormat_encodeR : fitsFormat .R (encodeR op p x y wd ht) = true := by
  refine fitsFormat_append op
    (mask := 0#12 ++ 0#12 ++ 0#12 ++ 0#12 ++ BitVec.allOnes 5 ++ 0#1 ++ BitVec.allOnes 2) rfl ?_
  repeat rw [BitVec.and_append]
  rw [BitVec.and_zero, BitVec.and_zero, BitVec.and_zero, BitVec.and_zero, BitVec.zero_and,
    BitVec.and_zero, BitVec.zero_and]
  rfl

@[simp] theorem fitsFormat_encodeA : fitsFormat .A (encodeA op addr) = true := by
  refine fitsFormat_append op (mask := BitVec.allOnes 24 ++ 0#24 ++ BitVec.allOnes 8) rfl ?_
  repeat rw [BitVec.and_append]
  rw [BitVec.zero_and, BitVec.and_zero, BitVec.zero_and]
  rfl

@[simp] theorem fieldD8_encodeB : fieldD8 (encodeB op d8) = d8 := by
  rw [fieldD8, encodeB]
  repeat rw [BitVec.extractLsb'_append_eq_of_le (by decide)]
  exact BitVec.extractLsb'_append_eq_right

@[simp] theorem fieldPl_encodeP : fieldPl (encodeP op pl x y) = pl.code := by
  rw [fieldPl, encodeP, BitVec.extractLsb'_append_eq_of_le (by decide)]
  exact BitVec.extractLsb'_append_eq_right

theorem fieldX_encodeP (h : fitsS12 x = true) : fieldX (encodeP op pl x y) = x := by
  rw [fieldX, encodeP]
  repeat rw [BitVec.extractLsb'_append_eq_of_le (by decide)]
  exact (congrArg _ BitVec.extractLsb'_append_eq_right).trans (toInt_ofInt_of_fitsS12 h)

theorem fieldY_encodeP (h : fitsS12 y = true) : fieldY (encodeP op pl x y) = y := by
  rw [fieldY, encodeP]
  repeat rw [BitVec.extractLsb'_append_eq_of_le (by decide)]
  exact (congrArg _ BitVec.extractLsb'_append_eq_right).trans (toInt_ofInt_of_fitsS12 h)

theorem fieldX_encodeC (h : fitsS12 x = true) : fieldX (encodeC op x y) = x := by
  rw [fieldX, encodeC]
  repeat rw [BitVec.extractLsb'_append_eq_of_le (by decide)]
  exact (congrArg _ BitVec.extractLsb'_append_eq_right).trans (toInt_ofInt_of_fitsS12 h)

theorem fieldY_encodeC (h : fitsS12 y = true) : fieldY (encodeC op x y) = y := by
  rw [fieldY, encodeC]
  repeat rw [BitVec.extractLsb'_append_eq_of_le (by decide)]
  exact (congrArg _ BitVec.extractLsb'_append_eq_right).trans (toInt_ofInt_of_fitsS12 h)

theorem fieldX_encodeR (h : fitsS12 x = true) : fieldX (encodeR op p x y wd ht) = x := by
  rw [fieldX, encodeR]
  repeat rw [BitVec.extractLsb'_append_eq_of_le (by decide)]
  exact (congrArg _ BitVec.extractLsb'_append_eq_right).trans (toInt_ofInt_of_fitsS12 h)

theorem fieldY_encodeR (h : fitsS12 y = true) : fieldY (encodeR op p x y wd ht) = y := by
  rw [fieldY, encodeR]
  repeat rw [BitVec.extractLsb'_append_eq_of_le (by decide)]
  exact (congrArg _ BitVec.extractLsb'_append_eq_right).trans (toInt_ofInt_of_fitsS12 h)

theorem fieldW_encodeR (h : fitsU12 wd = true) : fieldW (encodeR op p x y wd ht) = wd := by
  rw [fieldW, encodeR]
  repeat rw [BitVec.extractLsb'_append_eq_of_le (by decide)]
  exact (congrArg BitVec.toNat BitVec.extractLsb'_append_eq_right).trans
    (Nat.mod_eq_of_lt ((fitsU12_iff _).1 h))

theorem fieldH_encodeR (h : fitsU12 ht = true) : fieldH (encodeR op p x y wd ht) = ht := by
  rw [fieldH, encodeR]
  repeat rw [BitVec.extractLsb'_append_eq_of_le (by decide)]
  exact (congrArg BitVec.toNat BitVec.extractLsb'_eq_self).trans
    (Nat.mod_eq_of_lt ((fitsU12_iff _).1 h))

theorem fieldAddr_encodeA (h : fitsU24 addr = true) : fieldAddr (encodeA op addr) = addr := by
  rw [fieldAddr, encodeA]
  repeat rw [BitVec.extractLsb'_append_eq_of_le (by decide)]
  exact (congrArg BitVec.toNat BitVec.extractLsb'_append_eq_right).trans
    (Nat.mod_eq_of_lt ((fitsU24_iff _).1 h))

/-- Bit 10 of a word as a field one bit wide. -/
theorem fieldP_eq (w : Command) : BitVec.ofBool (fieldP w) = w.extractLsb' 10 1 := by
  apply BitVec.eq_of_getLsbD_eq
  intro i hi
  obtain rfl : i = 0 := by omega
  simp [fieldP]

@[simp] theorem fieldP_encodeK : fieldP (encodeK op p) = p := by
  rw [← BitVec.ofBool_eq_iff_eq, fieldP_eq, encodeK]
  repeat rw [BitVec.extractLsb'_append_eq_of_le (by decide)]
  exact BitVec.extractLsb'_append_eq_right

@[simp] theorem fieldP_encodeR : fieldP (encodeR op p x y wd ht) = p := by
  rw [← BitVec.ofBool_eq_iff_eq, fieldP_eq, encodeR]
  repeat rw [BitVec.extractLsb'_append_eq_of_le (by decide)]
  exact BitVec.extractLsb'_append_eq_right

end Encoded

/-! ### A word that fits its format is the encoder's, from its own fields -/

section Decoded

variable {w : Command} {op : Byte}

theorem encodeN_of_fits (hop : fieldOp w = op) (h : fitsFormat .N w = true) : encodeN op = w :=
  hop ▸ ((fitsFormat_N_iff w).1 h).symm

theorem encodeB_of_fits (hop : fieldOp w = op) (h : fitsFormat .B w = true) :
    encodeB op (fieldD8 w) = w := by
  rw [← hop, encodeB, ← extractLsb'_of_fitsFormat h 24 40 (by decide) rfl,
    ← extractLsb'_of_fitsFormat h 8 8 (by decide) rfl, fieldOp, fieldD8]
  repeat rw [BitVec.extractLsb'_append_extractLsb'_eq_extractLsb' (by decide)]
  exact BitVec.extractLsb'_eq_self

theorem code_eq_of_planeOfCode {c : BitVec 2} {pl : PlaneId} (h : planeOfCode c = some pl) :
    pl.code = c := by
  revert c
  cases pl <;> decide

theorem encodeP_of_fits {pl : PlaneId} (hop : fieldOp w = op) (h : fitsFormat .P w = true)
    (hpl : planeOfCode (fieldPl w) = some pl) :
    encodeP op pl (fieldX w) (fieldY w) = w := by
  rw [← hop, encodeP, code_eq_of_planeOfCode hpl, fieldX, fieldY, BitVec.ofInt_toInt, BitVec.ofInt_toInt,
    ← extractLsb'_of_fitsFormat h 40 24 (by decide) rfl,
    ← extractLsb'_of_fitsFormat h 10 6 (by decide) rfl, fieldOp, fieldPl]
  repeat rw [BitVec.extractLsb'_append_extractLsb'_eq_extractLsb' (by decide)]
  exact BitVec.extractLsb'_eq_self

theorem encodeC_of_fits (hop : fieldOp w = op) (h : fitsFormat .C w = true) :
    encodeC op (fieldX w) (fieldY w) = w := by
  rw [← hop, encodeC, fieldX, fieldY, BitVec.ofInt_toInt, BitVec.ofInt_toInt,
    ← extractLsb'_of_fitsFormat h 40 24 (by decide) rfl,
    ← extractLsb'_of_fitsFormat h 8 8 (by decide) rfl, fieldOp]
  repeat rw [BitVec.extractLsb'_append_extractLsb'_eq_extractLsb' (by decide)]
  exact BitVec.extractLsb'_eq_self

theorem encodeK_of_fits (hop : fieldOp w = op) (h : fitsFormat .K w = true) :
    encodeK op (fieldP w) = w := by
  rw [← hop, encodeK, fieldP_eq, ← extractLsb'_of_fitsFormat h 11 53 (by decide) rfl,
    ← extractLsb'_of_fitsFormat h 8 2 (by decide) rfl, fieldOp]
  repeat rw [BitVec.extractLsb'_append_extractLsb'_eq_extractLsb' (by decide)]
  exact BitVec.extractLsb'_eq_self

theorem encodeR_of_fits (hop : fieldOp w = op) (h : fitsFormat .R w = true) :
    encodeR op (fieldP w) (fieldX w) (fieldY w) (fieldW w) (fieldH w) = w := by
  rw [← hop, encodeR, fieldP_eq, fieldX, fieldY, BitVec.ofInt_toInt, BitVec.ofInt_toInt, fieldW, fieldH,
    BitVec.ofNat_toNat, BitVec.ofNat_toNat, BitVec.setWidth_eq, BitVec.setWidth_eq,
    ← extractLsb'_of_fitsFormat h 11 5 (by decide) rfl,
    ← extractLsb'_of_fitsFormat h 8 2 (by decide) rfl, fieldOp]
  repeat rw [BitVec.extractLsb'_append_extractLsb'_eq_extractLsb' (by decide)]
  exact BitVec.extractLsb'_eq_self

theorem encodeA_of_fits (hop : fieldOp w = op) (h : fitsFormat .A w = true) :
    encodeA op (fieldAddr w) = w := by
  rw [← hop, encodeA, fieldAddr, BitVec.ofNat_toNat, BitVec.setWidth_eq,
    ← extractLsb'_of_fitsFormat h 40 24 (by decide) rfl,
    ← extractLsb'_of_fitsFormat h 8 8 (by decide) rfl, fieldOp]
  repeat rw [BitVec.extractLsb'_append_extractLsb'_eq_extractLsb' (by decide)]
  exact BitVec.extractLsb'_eq_self

end Decoded

/-! ### Decode and encode agree (30_encoding.md rule R113) -/

theorem decodeAs_of_fits {f : Format} {w : Command} (h : fitsFormat f w = true) (i : Instr) :
    decodeAs f w i = .instr i := if_pos h

theorem planeOfCode_code (pl : PlaneId) : planeOfCode pl.code = some pl := by
  cases pl <;> rfl

theorem decodePlane_encodeP (op : Byte) (pl : PlaneId) (x y : Int) (i : PlaneId → Instr) :
    decodePlane (encodeP op pl x y) i = .instr (i pl) := by
  rw [decodePlane, if_pos (fitsFormat_encodeP op pl x y), fieldPl_encodeP, planeOfCode_code]

/-- Settles O1: the opcode picks the decoder's row; the encoder's word fits that row's format and carries
each operand in its field. -/
theorem decodeOfEncodeIsTheCommand : Obligations.DecodeOfEncodeIsTheCommand := by
  intro i hwf
  cases i with
  | nop | crcInit | crcRead | frTryHeader | frReadMessage | frFlush | frCurrent | frStatus | frPkt
  | frMsgLen | fbAdvanceAll | fbDirtyCount | fbGeometry | errRead => decide
  | crcUpdate d8 | errClear d8 => simp [encode, decode, decodeAs_of_fits]
  | fbClear p => simp [encode, decode, decodeAs_of_fits]
  | frMsgRead addr =>
    have haddr : fitsU24 addr = true := hwf
    simp [encode, decode, decodeAs_of_fits, fieldAddr_encodeA, haddr]
  | fbSet pl x y | fbUnset pl x y | fbIsSet pl x y | fbReadRow8 pl x y =>
    obtain ⟨hx, hy⟩ := (Bool.and_eq_true _ _).mp hwf
    simp [encode, decode, decodePlane_encodeP, fieldX_encodeP, fieldY_encodeP, hx, hy]
  | fbAdvance x y | fbIsDirty x y =>
    obtain ⟨hx, hy⟩ := (Bool.and_eq_true _ _).mp hwf
    simp [encode, decode, decodeAs_of_fits, fieldX_encodeC, fieldY_encodeC, hx, hy]
  | fbClearRegion p x y wd ht =>
    simp only [Instr.wellFormed, Bool.and_eq_true] at hwf
    obtain ⟨⟨⟨hx, hy⟩, hwd⟩, hht⟩ := hwf
    simp [encode, decode, decodeAs_of_fits, fieldX_encodeR, fieldY_encodeR, fieldW_encodeR,
      fieldH_encodeR, hx, hy, hwd, hht]

/-- Settles O2: the decoder's row gives the command and that the word fits its format, and such a word is
rebuilt from its fields. -/
theorem legalWordIsItsCommandsEncoding : Obligations.LegalWordIsItsCommandsEncoding := by
  intro w i h
  have hop := fieldOp_of_decode h
  unfold decode at h
  split at h
  case h_13 | h_14 | h_15 | h_22 =>
    obtain ⟨hfits, pl, hpl, rfl⟩ := (decodePlane_eq_instr_iff _ _ _).1 h
    exact ⟨encodeP_of_fits hop hfits hpl, by simp [Instr.wellFormed]⟩
  case h_26 => cases h
  case h_3 | h_25 =>
    obtain ⟨hfits, rfl⟩ := (decodeAs_eq_instr_iff _ _ _ _).1 h
    exact ⟨encodeB_of_fits hop hfits, rfl⟩
  case h_12 =>
    obtain ⟨hfits, rfl⟩ := (decodeAs_eq_instr_iff _ _ _ _).1 h
    exact ⟨encodeA_of_fits hop hfits, fitsU24_fieldAddr w⟩
  case h_16 =>
    obtain ⟨hfits, rfl⟩ := (decodeAs_eq_instr_iff _ _ _ _).1 h
    exact ⟨encodeK_of_fits hop hfits, rfl⟩
  case h_17 =>
    obtain ⟨hfits, rfl⟩ := (decodeAs_eq_instr_iff _ _ _ _).1 h
    exact ⟨encodeR_of_fits hop hfits, by simp [Instr.wellFormed]⟩
  case h_18 | h_20 =>
    obtain ⟨hfits, rfl⟩ := (decodeAs_eq_instr_iff _ _ _ _).1 h
    exact ⟨encodeC_of_fits hop hfits, by simp [Instr.wellFormed]⟩
  all_goals
    obtain ⟨hfits, rfl⟩ := (decodeAs_eq_instr_iff _ _ _ _).1 h
    exact ⟨encodeN_of_fits hop hfits, rfl⟩

end Sys2Proof.Proofs

namespace Sys2Proof.Proofs

open Sys2Proof.Machine Sys2Proof.Laws

/-! ### The invariant at reset and under the other agents' moves (10_state.md rules R24 to R40) -/

section Agents

variable {s : State} {rest : List Move}

/-- Reset meets the invariant as soon as what it keeps, the parameters and CLK, is in range. -/
theorem inv_resetBlock (hparams : s.params.Legal) (hclk : s.clk < 2 ^ s.params.clkBits) :
    s.resetBlock.Inv where
  paramsLegal := hparams
  errHardwired := (by decide : 0x00#8 &&& errMask = 0x00#8)
  lastResultLegal := .inl rfl
  clkInRange := hclk
  busyIff := by simp [State.resetBlock, State.reset]
  phaseIff := by simp [State.resetBlock, State.reset]
  notHeld _ := ⟨rfl, rfl, rfl, rfl⟩
  held h := by simp [State.resetBlock, State.reset] at h
  headerFresh _ := ⟨rfl, rfl⟩
  loopUnfinished h := by simp [State.resetBlock, State.reset] at h
  completeFull _ := rfl
  msgLenFits := Nat.zero_le _
  msgCanonical := rfl
  msgInStore _ h := absurd h List.not_mem_nil
  bufFits := Nat.zero_le _
  checkHasPayload _ := rfl
  txqLegal _ h := absurd h List.not_mem_nil
  planesCanonical := ⟨rfl, rfl, rfl⟩
  planesOnScreen _ h := absurd h List.not_mem_nil
  noResponseWhileBusy _ := rfl
  responseLegal := rfl

/-- Settles O50: the state after reset is a reset of itself, with legal parameters and CLK 0. -/
theorem resetMeetsTheInvariant : Obligations.ResetMeetsTheInvariant :=
  inv_resetBlock (s := State.reset) config_params_legal (Nat.two_pow_pos _)

theorem inv_moveOn (h : s.Inv) : (s.moveOn rest).Inv := { h with }

theorem inv_appendRx (h : s.Inv) (b : Byte) : (s.appendRx b).Inv := { h with }

theorem inv_deliverTx (h : s.Inv) : s.deliverTx.Inv :=
  { h with txqLegal := fun b hb => h.txqLegal b (List.mem_of_mem_tail hb) }

theorem inv_tickClk (h : s.Inv) : s.tickClk.Inv :=
  { h with clkInRange := Nat.mod_lt _ (Nat.two_pow_pos _) }

end Agents

/-! ### The invariant in the packet loop (41_framer.md sections 4 to 7) -/

section PacketLoop

variable {s : State}

theorem isResultByte_of_mem_append {q : List Byte} {b : Byte}
    (hq : ∀ c ∈ q, isResultByte c = true) (hb : isResultByte b = true) :
    ∀ c ∈ q ++ [b], isResultByte c = true := by
  intro c hc
  rcases List.mem_append.1 hc with hc | hc
  · exact hq c hc
  · rwa [List.mem_singleton.1 hc]

theorem inv_txSend (h : s.Inv) {b : Byte} (hb : isResultByte b = true) : (s.txSend b).Inv :=
  { h with
    lastResultLegal := .inr hb
    txqLegal := isResultByte_of_mem_append h.txqLegal hb }

/-- An abort leaves the invariant's state with no message held. -/
theorem inv_abortAndRespond (h : s.Inv) : s.abortAndRespond.Inv :=
  { inv_txSend h (b := 0x05#8) rfl with
    busyIff := by simp [State.abortAndRespond]
    phaseIff := by simp [State.abortAndRespond]
    notHeld := fun _ => ⟨rfl, rfl, rfl, rfl⟩
    held := by simp [State.abortAndRespond]
    headerFresh := by simp [State.abortAndRespond]
    loopUnfinished := by simp [State.abortAndRespond]
    completeFull := by simp [State.abortAndRespond]
    msgLenFits := Nat.zero_le _
    checkHasPayload := by simp [State.abortAndRespond]
    noResponseWhileBusy := by simp [State.abortAndRespond]
    responseLegal := rfl }

theorem inv_retryPacket (h : s.Inv) (hloop : s.sessionState = .payloadRead) :
    s.retryPacket.Inv :=
  { inv_txSend h (b := 0x03#8) rfl with
    phaseIff := by simp [State.retryPacket, hloop]
    checkHasPayload := by simp [State.retryPacket] }

/-- Where the record fits, MSG_LEN takes its length on without wrapping (41_framer.md rule R177). -/
theorem toNat_msgLen_add (h : s.Inv) {n : Nat} (hfits : s.msgLen.toNat + n ≤ s.params.msgCap) :
    (s.msgLen + BitVec.ofNat 25 n).toNat = s.msgLen.toNat + n := by
  obtain ⟨-, -, ⟨-, hcap⟩, -⟩ := h.paramsLegal
  rw [BitVec.toNat_add, BitVec.toNat_ofNat]
  omega

/-- With a packet left to accept, PKT_INDEX counts it without wrapping (10_state.md rule R31). -/
theorem toNat_pktIndex_succ (h : s.Inv) (hloop : s.sessionState = .payloadRead) :
    (s.pktIndex + 1#16).toNat = s.pktIndex.toNat + 1 := by
  have hleft := h.loopUnfinished hloop
  have hcount := s.pktCount.isLt
  rw [BitVec.toNat_add, BitVec.toNat_ofNat]
  omega

theorem recordFits_iff : s.recordFits = true ↔
    s.msgLen.toNat + (recordOf s.sessionType s.pktBuf).length ≤ s.params.msgCap :=
  decide_eq_true_iff

/-- A commit alone may leave no packet to accept; `afterCommit` then completes the session. -/
theorem inv_afterCommit_commit (h : s.Inv) (hloop : s.sessionState = .payloadRead)
    (hfits : s.recordFits = true) : s.commit.afterCommit.Inv := by
  rw [recordFits_iff] at hfits
  have hlen := toNat_msgLen_add h hfits
  have hcount := toNat_pktIndex_succ h hloop
  have hleft := h.loopUnfinished hloop
  have hlenFits : (s.msgLen + BitVec.ofNat 25 (recordOf s.sessionType s.pktBuf).length).toNat ≤
      s.params.msgCap := hlen.trans_le hfits
  have hstore : ∀ cell ∈ s.msg.writeBytes s.msgLen.toNat (recordOf s.sessionType s.pktBuf),
      cell.1 < s.params.msgCap := by
    intro cell hcell
    rcases mem_writeBytes hcell with hnew | hold
    · omega
    · exact h.msgInStore cell hold
  have hcanonical := wf_writeBytes s.msgLen.toNat (recordOf s.sessionType s.pktBuf) s.msg
    h.msgCanonical
  have hheld := h.held (.inr (.inl hloop))
  rw [commit_eq, State.afterCommit]
  split
  · rename_i hdone
    exact { inv_txSend h (b := 0x01#8) rfl with
      busyIff := by simp
      phaseIff := by simp
      notHeld := by simp
      held := fun _ => hheld
      headerFresh := by simp
      loopUnfinished := by simp
      completeFull := fun _ => hdone
      msgLenFits := hlenFits
      msgCanonical := hcanonical
      msgInStore := hstore
      checkHasPayload := by simp
      noResponseWhileBusy := by simp
      responseLegal := rfl }
  · rename_i hmore
    have hne : (s.pktIndex + 1#16).toNat ≠ s.pktCount.toNat :=
      fun heq => hmore (BitVec.eq_of_toNat_eq heq)
    exact { inv_txSend h (b := 0x01#8) rfl with
      phaseIff := by simp [hloop]
      notHeld := by simp [hloop]
      headerFresh := by simp [hloop]
      loopUnfinished := fun _ => by simp only; omega
      completeFull := by simp [hloop]
      msgLenFits := hlenFits
      msgCanonical := hcanonical
      msgInStore := hstore
      checkHasPayload := by simp }

theorem inv_checkStep (h : s.Inv) (hloop : s.sessionState = .payloadRead) : (checkStep s).Inv := by
  obtain ⟨-, heq⟩ | ⟨-, -, heq⟩ | ⟨-, -, hfits, heq⟩ := checkStep_cases s <;> rw [heq]
  · exact inv_retryPacket h hloop
  · exact inv_abortAndRespond h
  · exact inv_afterCommit_commit h hloop hfits

theorem inv_loopStep (h : s.Inv) (hloop : s.sessionState = .payloadRead) : (loopStep s).Inv := by
  obtain ⟨-, heq⟩ | ⟨-, -, heq⟩ | ⟨-, -, heq⟩ | ⟨-, -, heq⟩ | ⟨-, hread, heq⟩ | ⟨-, heq⟩ | ⟨-, heq⟩ :=
    loopStep_cases s <;> rw [heq]
  · exact h
  · exact inv_abortAndRespond { h with }
  · exact { h with phaseIff := by simp [hloop], checkHasPayload := by simp }
  · exact inv_abortAndRespond { h with }
  · have hlen : (s.rxq.take s.pktLen.toNat).length = s.pktLen.toNat := List.length_take_of_le hread
    have hbound := s.pktLen.isLt
    exact { h with
      phaseIff := by simp [hloop]
      bufFits := by simp only [hlen]; omega
      checkHasPayload := fun _ => hlen }
  · exact inv_checkStep h hloop
  · exact { h with phaseIff := by simp [hloop], checkHasPayload := by simp }

theorem inv_blockStep (h : s.Inv) : (blockStep s).Inv := by
  obtain ⟨-, heq⟩ | ⟨hloop, heq⟩ := blockStep_cases s <;> rw [heq]
  · exact h
  · exact inv_loopStep h hloop

end PacketLoop

/-! ### The invariant over a command (30_encoding.md rule R101) -/

section Commands

variable {s t : State} {rest : List Move}

/-- The invariant of a state in which a command runs: that of the machine outside the packet loop, but for
what the port itself has set, BUSY and the response. -/
structure InvInCommand (s : State) : Prop where
  notInLoop : s.sessionState ≠ .payloadRead
  rest : ({ s with busy := false, response := none } : State).Inv

/-- Taking a word from the port starts a command in the invariant. -/
theorem invInCommand_accept (h : s.Inv) (hfree : s.busy = false) : InvInCommand (s.accept rest) := by
  have hnot : s.sessionState ≠ .payloadRead := fun hloop => by
    simp [h.busyIff.2 hloop] at hfree
  exact ⟨hnot, { h with
    busyIff := ⟨fun hbusy => by simp at hbusy, fun hloop => absurd hloop hnot⟩
    noResponseWhileBusy := fun _ => rfl
    responseLegal := rfl }⟩

/-- A response with one of the codes ends the command in the invariant. -/
theorem InvInCommand.respond (h : InvInCommand s) {res : Byte} (hres : isResponseCode res = true)
    (data : Data) : (s.respond res data).Inv :=
  { h.rest with
    noResponseWhileBusy := fun hbusy => by simp at hbusy
    responseLegal := hres }

theorem InvInCommand.ok (h : InvInCommand s) (data : Data) : (s.ok data).Inv :=
  h.respond rfl data

theorem InvInCommand.writeErr (h : InvInCommand s) (v : Byte) : InvInCommand (s.writeErr v) :=
  ⟨h.notInLoop, { h.rest with
    errHardwired := (by rw [BitVec.and_assoc, BitVec.and_self] :
      (v &&& errMask) &&& errMask = v &&& errMask) }⟩

theorem InvInCommand.raise (h : InvInCommand s) (e : PortError) : (s.raise e).Inv :=
  (h.writeErr _).respond (by cases e <;> rfl) 0#32

theorem InvInCommand.withCrcReg (h : InvInCommand s) (c : Half) : InvInCommand (withCrcReg c s) :=
  ⟨h.notInLoop, { h.rest with }⟩

theorem InvInCommand.consume (h : InvInCommand s) (n : Nat) : InvInCommand (s.consume n) :=
  ⟨h.notInLoop, { h.rest with }⟩

theorem InvInCommand.txSend (h : InvInCommand s) {b : Byte} (hb : isResultByte b = true) :
    InvInCommand (s.txSend b) :=
  ⟨h.notInLoop, inv_txSend h.rest hb⟩

/-- A plane in canonical form with every cell on the screen. -/
structure PlaneInRange (params : Params) (p : PixelPlane) : Prop where
  wf : p.wf = true
  onScreen : ∀ c ∈ p, onScreen params c = true

theorem planeInRange_writeBit {params : Params} {p : PixelPlane} {c : Pixel}
    (h : PlaneInRange params p) (hc : onScreen params c = true) (bit : Bool) :
    PlaneInRange params (p.writeBit c bit) := by
  refine ⟨planeWf_writeBit c bit p h.wf, fun d hd => ?_⟩
  rcases mem_writeBit hd with rfl | hd
  · exact hc
  · exact h.onScreen d hd

theorem planeInRange_clearIf {params : Params} {p : PixelPlane} (h : PlaneInRange params p)
    (pick : Pixel → Bool) : PlaneInRange params (p.clearIf pick) :=
  ⟨planeWf_clearIf pick p h.wf, fun d hd => h.onScreen d ((mem_clearIf pick d p).1 hd).1⟩

theorem InvInCommand.planeInRange (h : InvInCommand s) (pl : PlaneId) :
    PlaneInRange s.params (s.plane pl) := by
  obtain ⟨hcur, hprev, hpers⟩ := h.rest.planesCanonical
  have hscreen := h.rest.planesOnScreen
  cases pl with
  | cur => exact ⟨hcur, fun c hc => hscreen c (List.mem_append_left _ (List.mem_append_left _ hc))⟩
  | prev => exact ⟨hprev, fun c hc => hscreen c (List.mem_append_left _ (List.mem_append_right _ hc))⟩
  | pers => exact ⟨hpers, fun c hc => hscreen c (List.mem_append_right _ hc)⟩

/-- Any three planes in range may take the place of the machine's. -/
theorem InvInCommand.withPlanes (h : InvInCommand s) {cur prev pers : PixelPlane}
    (hcur : PlaneInRange s.params cur) (hprev : PlaneInRange s.params prev)
    (hpers : PlaneInRange s.params pers) :
    InvInCommand { s with planeCur := cur, planePrev := prev, planePers := pers } := by
  refine ⟨h.notInLoop, { h.rest with
    planesCanonical := ⟨hcur.wf, hprev.wf, hpers.wf⟩
    planesOnScreen := fun c hc => ?_ }⟩
  simp only [List.mem_append] at hc
  obtain (hc | hc) | hc := hc
  · exact hcur.onScreen c hc
  · exact hprev.onScreen c hc
  · exact hpers.onScreen c hc

theorem InvInCommand.writePixel (h : InvInCommand s) (pl : PlaneId) {c : Pixel}
    (hc : onScreen s.params c = true) (bit : Bool) : InvInCommand (s.writePixel pl c bit) := by
  have hwritten := planeInRange_writeBit (h.planeInRange pl) hc bit
  cases pl with
  | cur => exact h.withPlanes hwritten (h.planeInRange .prev) (h.planeInRange .pers)
  | prev => exact h.withPlanes (h.planeInRange .cur) hwritten (h.planeInRange .pers)
  | pers => exact h.withPlanes (h.planeInRange .cur) (h.planeInRange .prev) hwritten

theorem InvInCommand.clearCells (h : InvInCommand s) (p : Bool) (pick : Pixel → Bool) :
    InvInCommand (s.clearCells p pick) := by
  cases p with
  | false =>
    exact h.withPlanes (planeInRange_clearIf (h.planeInRange .cur) _) (h.planeInRange .prev)
      (h.planeInRange .pers)
  | true =>
    exact h.withPlanes (planeInRange_clearIf (h.planeInRange .cur) pick) (h.planeInRange .prev)
      (planeInRange_clearIf (h.planeInRange .pers) pick)

theorem InvInCommand.flush (h : InvInCommand s) : InvInCommand { s with
    sessionState := .idle, sessionType := 0x00#8, pktCount := 0#16, pktIndex := 0#16,
    msgLen := 0#25 } := by
  have hphase : s.frPhase = .none := h.rest.phaseIff.2 h.notInLoop
  exact ⟨by simp, { h.rest with
    busyIff := by simp
    phaseIff := by simp [hphase]
    notHeld := fun _ => ⟨rfl, rfl, rfl, rfl⟩
    held := by simp
    headerFresh := by simp
    loopUnfinished := by simp
    completeFull := by simp
    msgLenFits := Nat.zero_le _ }⟩

theorem InvInCommand.rejectHeader (h : InvInCommand s)
    (hnone : s.sessionState = .idle ∨ s.sessionState = .aborted) : s.rejectHeader.Inv := by
  have hphase : s.frPhase = .none := h.rest.phaseIff.2 h.notInLoop
  have hidle : InvInCommand { s with sessionState := .idle } := ⟨by simp, { h.rest with
    busyIff := by simp
    phaseIff := by simp [hphase]
    notHeld := fun _ => h.rest.notHeld hnone
    held := by simp
    headerFresh := by simp
    loopUnfinished := by simp
    completeFull := by simp }⟩
  exact (hidle.txSend (b := 0x05#8) rfl).respond rfl 0#32

theorem InvInCommand.openSession (h : InvInCommand s) {t : Byte} {n : Half}
    (ht : isTypeId t = true) (hn : n ≠ 0#16) (hsingle : t ≠ 0x10#8 → n = 1#16) :
    (s.openSession t n).Inv := by
  have hphase : s.frPhase = .none := h.rest.phaseIff.2 h.notInLoop
  have hpos : 1 ≤ n.toNat := Nat.one_le_iff_ne_zero.2 fun h0 => hn (BitVec.eq_of_toNat_eq h0)
  have hopen : InvInCommand { s with
      sessionType := t, pktCount := n, pktIndex := 0#16, msgLen := 0#25,
      sessionState := .headerRead } := ⟨by simp, { h.rest with
    busyIff := by simp
    phaseIff := by simp [hphase]
    notHeld := by simp
    held := fun _ => ⟨ht, hpos, hsingle⟩
    headerFresh := fun _ => ⟨rfl, rfl⟩
    loopUnfinished := by simp
    completeFull := by simp
    msgLenFits := Nat.zero_le _ }⟩
  exact (hopen.txSend (b := 0x01#8) rfl).respond rfl 1#32

theorem InvInCommand.tryHeader (h : InvInCommand s)
    (hnone : s.sessionState = .idle ∨ s.sessionState = .aborted) : s.tryHeader.Inv := by
  obtain ⟨-, heq⟩ | ⟨_, -, -, -, heq⟩ | ⟨_, -, -, hn, heq⟩ | ⟨t, _, -, ht, heq⟩ |
    ⟨_, _, -, -, -, -, heq⟩ := tryHeader_cases s <;> rw [heq]
  · exact h.respond rfl 0#32
  · exact (h.consume 3).rejectHeader hnone
  · exact (h.consume 3).openSession rfl hn (absurd rfl)
  · exact (h.consume 1).openSession (by obtain rfl | rfl := ht <;> rfl) (by decide) fun _ => rfl
  · exact (h.consume 1).rejectHeader hnone

/-- FR_READ_MESSAGE in HEADER_READ enters the packet loop, which BUSY and the missing response await. -/
theorem InvInCommand.enterLoop (h : InvInCommand s) (hheader : s.sessionState = .headerRead)
    (hbusy : s.busy = true) (hresponse : s.response = none) :
    ({ s with sessionState := .payloadRead, frPhase := .readPrefix } : State).Inv := by
  have hheld := h.rest.held (.inl hheader)
  have hindex : s.pktIndex = 0#16 := (h.rest.headerFresh hheader).1
  have hcount : 1 ≤ s.pktCount.toNat := hheld.2.1
  exact { h.rest with
    busyIff := by simp [hbusy]
    phaseIff := by simp
    notHeld := by simp
    held := fun _ => hheld
    headerFresh := by simp
    loopUnfinished := fun _ => by simp only [hindex]; exact hcount
    completeFull := by simp
    checkHasPayload := by simp
    noResponseWhileBusy := fun _ => hresponse
    responseLegal := by simp [hresponse] }

theorem InvInCommand.frReadMessage (h : InvInCommand s) (hbusy : s.busy = true)
    (hresponse : s.response = none) (hnext : execFrReadMessage s = .next t) : t.Inv := by
  unfold execFrReadMessage at hnext
  split at hnext <;> rename_i hstate
  case h_5 => cases hnext
  all_goals injection hnext with ht; rw [← ht]
  · exact (h.txSend (b := 0x02#8) rfl).respond rfl 0#32
  · exact (h.txSend (b := 0x02#8) rfl).respond rfl 0#32
  · exact h.ok _
  · exact h.enterLoop hstate hbusy hresponse

theorem InvInCommand.not_held (h : InvInCommand s) (hnone : s.holdsMessage ≠ true) :
    s.sessionState = .idle ∨ s.sessionState = .aborted := by
  rw [ne_eq, holdsMessage_iff] at hnone
  have hloop := h.notInLoop
  cases hstate : s.sessionState <;> simp_all

theorem InvInCommand.writePixel_of_inB (h : InvInCommand s) (pl : PlaneId) (x y : Int) (bit : Bool) :
    InvInCommand (if InB s.params x y then s.writePixel pl (pixelAt x y) bit else s) := by
  split
  · rename_i hin
    exact h.writePixel pl (onScreen_pixelAt hin) bit
  · exact h

/-- Every command that answers a next state ends in the invariant, FR_READ_MESSAGE in HEADER_READ too. -/
theorem InvInCommand.exec (h : InvInCommand s) (hbusy : s.busy = true)
    (hresponse : s.response = none) {i : Instr} (hnext : exec i s = .next t) : t.Inv := by
  cases i with
  | frReadMessage => exact h.frReadMessage hbusy hresponse hnext
  | nop | crcRead | frCurrent | frStatus | frPkt | frMsgLen | fbDirtyCount | fbGeometry | errRead =>
    injection hnext with ht
    exact ht ▸ h.ok _
  | crcInit | crcUpdate =>
    injection hnext with ht
    exact ht ▸ (h.withCrcReg _).ok _
  | errClear =>
    injection hnext with ht
    exact ht ▸ (h.writeErr _).ok _
  | frTryHeader =>
    injection hnext with ht
    rw [← ht]
    split
    · exact h.respond rfl 0#32
    · rename_i hnone
      exact h.tryHeader (h.not_held hnone)
  | frFlush =>
    injection hnext with ht
    exact ht ▸ h.flush.ok _
  | frMsgRead | fbIsSet | fbIsDirty | fbReadRow8 =>
    injection hnext with ht
    rw [← ht]
    split
    · exact h.ok _
    · exact h.raise .bounds
  | fbSet | fbAdvance =>
    injection hnext with ht
    exact ht ▸ (h.writePixel_of_inB _ _ _ _).ok _
  | fbUnset pl x y =>
    injection hnext with ht
    rw [← ht]
    refine InvInCommand.ok ?_ _
    split
    · split
      · exact h
      · rename_i hin _
        exact h.writePixel pl (onScreen_pixelAt hin) false
    · exact h
  | fbClear | fbClearRegion =>
    injection hnext with ht
    exact ht ▸ (h.clearCells _ _).ok _
  | fbAdvanceAll =>
    injection hnext with ht
    exact ht ▸ (h.withPlanes (h.planeInRange .cur) (h.planeInRange .cur) (h.planeInRange .pers)).ok _

end Commands

/-- Settles O51: each agent's move keeps the invariant, and so do the block's own step and every command,
whose effect is first brought into `InvInCommand` and whose response then closes it. -/
theorem everyStepKeepsTheInvariant : Obligations.EveryStepKeepsTheInvariant := by
  intro s t h hstep
  obtain ⟨-, rfl⟩ | ⟨_, _, -, -, rfl⟩ | ⟨w, rest, i, -, hfree, -, hexec⟩ |
    ⟨w, rest, _, -, hfree, -, rfl⟩ | ⟨b, rest, -, rfl⟩ | ⟨rest, -, rfl⟩ | ⟨rest, -, rfl⟩ |
    ⟨rest, -, rfl⟩ | ⟨rest, -, rfl⟩ := step_cases hstep
  · exact inv_blockStep h
  · exact inv_blockStep h
  · exact (invInCommand_accept h hfree).exec rfl rfl hexec
  · exact (invInCommand_accept h hfree).raise .illegal
  · exact inv_appendRx (inv_moveOn h) b
  · exact inv_deliverTx (inv_moveOn h)
  · exact inv_tickClk (inv_moveOn h)
  · exact inv_blockStep (inv_moveOn h)
  · exact inv_resetBlock h.paramsLegal h.clkInRange

end Sys2Proof.Proofs

namespace Sys2Proof.Proofs

open Sys2Proof.Machine Sys2Proof.Laws

/-! ### What a command can do, said once -/

section CommandEffects

variable {s t u : State}

/-- `u` is `s` but for CRC_REG, ERR and the planes: the framer and the port are as they were. -/
def SameFramer (s u : State) : Prop :=
  u = { s with
    crcReg := u.crcReg, err := u.err,
    planeCur := u.planeCur, planePrev := u.planePrev, planePers := u.planePers }

theorem sameFramer_writePixel (pl : PlaneId) (c : Pixel) (bit : Bool) :
    SameFramer s (s.writePixel pl c bit) := by
  cases pl <;> rfl

theorem sameFramer_clearCells (p : Bool) (pick : Pixel → Bool) :
    SameFramer s (s.clearCells p pick) := by
  cases p <;> rfl

theorem SameFramer.sessionState (h : SameFramer s u) : u.sessionState = s.sessionState := by rw [h]
theorem SameFramer.rxq (h : SameFramer s u) : u.rxq = s.rxq := by rw [h]
theorem SameFramer.txq (h : SameFramer s u) : u.txq = s.txq := by rw [h]
theorem SameFramer.lastResult (h : SameFramer s u) : u.lastResult = s.lastResult := by rw [h]

/-- The machine as FR_FLUSH leaves the session (41_framer.md rule R190). -/
def flushed (s : State) : State :=
  { s with
    sessionState := .idle, sessionType := 0x00#8, pktCount := 0#16, pktIndex := 0#16,
    msgLen := 0#25 }

/-- Everything a command that answers a next state can do: a session command has its own effect; every
other one responds Ok and leaves the framer alone, only ERR_CLEAR touching ERR, or raises Bounds. -/
inductive CommandEffect (s : State) : Instr → State → Prop where
  | headerWhileHeld (hheld : s.sessionState = .headerRead ∨ s.sessionState = .complete) :
      CommandEffect s .frTryHeader (s.respond resInternalError 0#32)
  | header (hnone : s.sessionState ≠ .headerRead ∧ s.sessionState ≠ .complete) :
      CommandEffect s .frTryHeader s.tryHeader
  | readNoSession (hnone : s.sessionState = .idle ∨ s.sessionState = .aborted) :
      CommandEffect s .frReadMessage ((s.txSend resInternalError).respond resInternalError 0#32)
  | readComplete (hcomplete : s.sessionState = .complete) :
      CommandEffect s .frReadMessage (s.ok (s.pktIndex.setWidth 32))
  | enterLoop (hheader : s.sessionState = .headerRead) :
      CommandEffect s .frReadMessage { s with sessionState := .payloadRead, frPhase := .readPrefix }
  | flush : CommandEffect s .frFlush ((flushed s).ok 0#32)
  | ok {i : Instr} {u : State} (d : Data) (hframer : SameFramer s u)
      (herr : (∀ d8, i ≠ .errClear d8) → u.err = s.err) : CommandEffect s i (u.ok d)
  | bounds {i : Instr} : CommandEffect s i (s.raise .bounds)

theorem commandEffect_frReadMessage (h : execFrReadMessage s = .next t) :
    CommandEffect s .frReadMessage t := by
  unfold execFrReadMessage at h
  split at h <;> rename_i hstate
  case h_5 => cases h
  all_goals
    injection h with ht
    subst ht
  · exact .readNoSession (.inl hstate)
  · exact .readNoSession (.inr hstate)
  · exact .readComplete hstate
  · exact .enterLoop hstate

theorem commandEffect_of_exec {i : Instr} (h : exec i s = .next t) : CommandEffect s i t := by
  cases i with
  | frReadMessage => exact commandEffect_frReadMessage h
  | frTryHeader =>
    injection h with ht
    subst ht
    split <;> rename_i hheld
    · exact .headerWhileHeld (holdsMessage_iff.1 hheld)
    · exact .header (by rwa [holdsMessage_iff, not_or] at hheld)
  | frFlush =>
    injection h with ht
    exact ht ▸ .flush
  | frMsgRead | fbIsSet | fbIsDirty | fbReadRow8 =>
    injection h with ht
    subst ht
    split
    · exact .ok _ rfl fun _ => rfl
    · exact .bounds
  | errClear d8 =>
    injection h with ht
    exact ht ▸ .ok _ rfl fun hno => absurd rfl (hno d8)
  | fbSet | fbAdvance =>
    injection h with ht
    subst ht
    split
    · exact .ok _ (sameFramer_writePixel _ _ _) fun _ => writePixel_err _ _ _ _
    · exact .ok _ rfl fun _ => rfl
  | fbUnset =>
    injection h with ht
    subst ht
    split
    · split
      · exact .ok _ rfl fun _ => rfl
      · exact .ok _ (sameFramer_writePixel _ _ _) fun _ => writePixel_err _ _ _ _
    · exact .ok _ rfl fun _ => rfl
  | fbClear | fbClearRegion =>
    injection h with ht
    exact ht ▸ .ok _ (sameFramer_clearCells _ _) fun _ => clearCells_err _ _ _
  | nop | crcInit | crcUpdate | crcRead | frCurrent | frStatus | frPkt | frMsgLen | fbAdvanceAll
  | fbDirtyCount | fbGeometry | errRead =>
    injection h with ht
    exact ht ▸ .ok _ rfl fun _ => rfl

end CommandEffects

/-! ### No step stops (60_exceptions.md rule R300) -/

/-- Only FR_READ_MESSAGE inside the packet loop has no next state. -/
theorem exists_exec_eq_next (i : Instr) {s : State} (h : s.sessionState ≠ .payloadRead) :
    ∃ t, exec i s = .next t := by
  cases i with
  | frReadMessage =>
    cases hstate : s.sessionState with
    | payloadRead => exact absurd hstate h
    | idle | headerRead | complete | aborted => simp [exec, execFrReadMessage, hstate]
  | _ => exact ⟨_, rfl⟩

/-- The port is free only outside the packet loop. -/
theorem not_payloadRead_of_free {s : State} (h : s.Inv) (hfree : s.busy = false) :
    s.sessionState ≠ .payloadRead := fun hloop => by
  rw [h.busyIff.2 hloop] at hfree
  cases hfree

/-- Settles O52: every move but a command is a total function of the state, and a command is taken only
outside the packet loop, where each has a next state. -/
theorem noStepStopsTheMachine : Obligations.NoStepStopsTheMachine := by
  intro s h
  cases hagenda : s.agenda with
  | nil => exact ⟨_, step_of_agenda_nil hagenda⟩
  | cons m rest =>
    cases m with
    | command w =>
      cases hbusy : s.busy with
      | true => exact ⟨blockStep s, by simp [step, hagenda, hbusy]⟩
      | false =>
        rw [step_of_command hagenda hbusy]
        cases hword : decode w with
        | illegal why => exact ⟨_, runWord_of_illegal hword _⟩
        | instr i =>
          have hfree := not_payloadRead_of_free h hbusy
          rw [runWord, hword]
          exact exists_exec_eq_next i (s := s.accept rest) hfree
    | receive b => exact ⟨_, step_of_receive hagenda⟩
    | deliver => exact ⟨_, step_of_deliver hagenda⟩
    | tick | block | reset => simp [step, hagenda]

end Sys2Proof.Proofs

namespace Sys2Proof.Proofs

open Sys2Proof.Machine Sys2Proof.Laws

/-! ### What the block's own step can do, said once -/

section BlockEffects

variable {s t : State}

@[simp] theorem commit_err : s.commit.err = s.err := by rw [commit_eq]
@[simp] theorem commit_lastResult : s.commit.lastResult = 0x01#8 := by rw [commit_eq]
@[simp] theorem commit_busy : s.commit.busy = s.busy := by rw [commit_eq]
@[simp] theorem commit_sessionState : s.commit.sessionState = s.sessionState := by rw [commit_eq]
@[simp] theorem commit_pktCount : s.commit.pktCount = s.pktCount := by rw [commit_eq]
@[simp] theorem commit_pktIndex : s.commit.pktIndex = s.pktIndex + 1#16 := by rw [commit_eq]
@[simp] theorem commit_rxq : s.commit.rxq = s.rxq := by rw [commit_eq]
@[simp] theorem commit_txq : s.commit.txq = s.txq ++ [0x01#8] := by rw [commit_eq]
@[simp] theorem commit_response : s.commit.response = s.response := by rw [commit_eq]

/-- `t` is `s` but for RXQ, from whose front bytes may be gone, and the packet being read. -/
structure SameButPacket (s t : State) : Prop where
  rxq : t.rxq <:+ s.rxq
  frame : t = { s with
    rxq := t.rxq, pktCrc := t.pktCrc, pktLen := t.pktLen, pktBuf := t.pktBuf, frPhase := t.frPhase }

/-- Everything the block's own step can do: go on silently, or, in the packet loop, abort, ask for the
packet again, or commit it and either go on or complete the session. -/
inductive BlockEffect (s : State) : State → Prop where
  | silent {t : State} (h : SameButPacket s t) : BlockEffect s t
  | abort (hloop : s.sessionState = .payloadRead) {queue : List Byte} (hqueue : queue <:+ s.rxq) :
      BlockEffect s { s with rxq := queue }.abortAndRespond
  | retry (hloop : s.sessionState = .payloadRead) : BlockEffect s s.retryPacket
  | commit (hloop : s.sessionState = .payloadRead) :
      BlockEffect s { s.commit with frPhase := .readPrefix }
  | complete (hloop : s.sessionState = .payloadRead) (hlast : s.commit.pktIndex = s.commit.pktCount) :
      BlockEffect s ({ s.commit with sessionState := .complete, frPhase := .none }.ok
        (s.commit.pktIndex.setWidth 32))

theorem blockEffect_checkStep (hloop : s.sessionState = .payloadRead) :
    BlockEffect s (checkStep s) := by
  obtain ⟨-, heq⟩ | ⟨-, -, heq⟩ | ⟨-, -, -, heq⟩ := checkStep_cases s <;> rw [heq]
  · exact .retry hloop
  · exact .abort hloop List.suffix_rfl
  · rw [State.afterCommit]
    split
    · rename_i hlast
      exact .complete hloop hlast
    · exact .commit hloop

theorem blockEffect_blockStep (s : State) : BlockEffect s (blockStep s) := by
  obtain ⟨-, heq⟩ | ⟨hloop, heq⟩ := blockStep_cases s <;> rw [heq]
  · exact .silent ⟨List.suffix_rfl, rfl⟩
  obtain ⟨-, heq⟩ | ⟨-, -, heq⟩ | ⟨-, -, heq⟩ | ⟨-, -, heq⟩ | ⟨-, -, heq⟩ | ⟨-, heq⟩ | ⟨-, heq⟩ :=
    loopStep_cases s <;> rw [heq]
  · exact .silent ⟨List.suffix_rfl, rfl⟩
  · exact .abort hloop List.nil_suffix
  · exact .silent ⟨List.drop_suffix _ _, rfl⟩
  · exact .abort hloop List.nil_suffix
  · exact .silent ⟨List.drop_suffix _ _, rfl⟩
  · exact blockEffect_checkStep hloop
  · exact .silent ⟨List.suffix_rfl, rfl⟩

end BlockEffects

/-! ### The transitions of SESSION_STATE (10_state.md rule R28) -/

section Transitions

variable {s t : State}

theorem BlockEffect.sessionState (h : BlockEffect s t) :
    t.sessionState = s.sessionState ∨
      s.sessionState = .payloadRead ∧
        (t.sessionState = .complete ∨ t.sessionState = .aborted) := by
  cases h with
  | silent h => exact .inl (by rw [h.frame])
  | abort hloop => exact .inr ⟨hloop, .inr rfl⟩
  | retry => exact .inl rfl
  | commit => exact .inl commit_sessionState
  | complete hloop => exact .inr ⟨hloop, .inl rfl⟩

theorem tryHeader_sessionState (s : State) :
    s.tryHeader.sessionState = s.sessionState ∨ s.tryHeader.sessionState = .headerRead ∨
      s.tryHeader.sessionState = .idle := by
  obtain ⟨-, heq⟩ | ⟨_, -, -, -, heq⟩ | ⟨_, -, -, -, heq⟩ | ⟨_, _, -, -, heq⟩ |
    ⟨_, _, -, -, -, -, heq⟩ := tryHeader_cases s <;> rw [heq]
  · exact .inl rfl
  · exact .inr (.inr rfl)
  · exact .inr (.inl rfl)
  · exact .inr (.inl rfl)
  · exact .inr (.inr rfl)

/-- The word of a legal command is the one encoding of it. -/
theorem eq_encode_of_decode {w : Command} {i : Instr} (h : decode w = .instr i) : w = encode i :=
  (legalWordIsItsCommandsEncoding w i h).1.symm

/-- A block step that changes SESSION_STATE ends the packet loop. -/
theorem blockStep_ends_loop (h : (blockStep s).sessionState ≠ s.sessionState) :
    s.sessionState = .payloadRead ∧
      ((blockStep s).sessionState = .complete ∨ (blockStep s).sessionState = .aborted) :=
  (blockEffect_blockStep s).sessionState.resolve_left h

/-- Settles O53: the block's step changes the state only out of the packet loop, and of the commands only
the session's three do. -/
theorem onlyTheListedSessionTransitions : Obligations.OnlyTheListedSessionTransitions := by
  intro s t h hstep hchange
  obtain ⟨-, rfl⟩ | ⟨_, _, -, -, rfl⟩ | ⟨w, rest, i, hagenda, hfree, hdecode, hexec⟩ |
    ⟨_, _, _, -, -, -, rfl⟩ | ⟨_, _, -, rfl⟩ | ⟨_, -, rfl⟩ | ⟨_, -, rfl⟩ | ⟨rest, -, rfl⟩ |
    ⟨rest, hagenda, rfl⟩ := step_cases hstep
  · exact .inr (.inr (.inr (.inl (blockStep_ends_loop hchange))))
  · exact .inr (.inr (.inr (.inl (blockStep_ends_loop hchange))))
  · have hloop := not_payloadRead_of_free h hfree
    rw [eq_encode_of_decode hdecode] at hagenda
    cases commandEffect_of_exec hexec with
    | headerWhileHeld | readNoSession | readComplete | bounds => exact absurd rfl hchange
    | header hnone =>
      obtain ⟨hheader, hcomplete⟩ : s.sessionState ≠ .headerRead ∧ s.sessionState ≠ .complete := hnone
      have hfrom : s.sessionState = .idle ∨ s.sessionState = .aborted := by
        cases hstate : s.sessionState <;> simp_all
      obtain hsame | hopened | hrejected := tryHeader_sessionState (s.accept rest)
      · exact absurd hsame hchange
      · exact .inl ⟨hfrom, hopened, rest, hagenda⟩
      · have haborted := hfrom.resolve_left fun hidle => hchange (hrejected.trans hidle.symm)
        exact .inr (.inl ⟨haborted, hrejected, rest, hagenda⟩)
    | enterLoop hheader => exact .inr (.inr (.inl ⟨hheader, rfl, rest, hagenda⟩))
    | flush => exact .inr (.inr (.inr (.inr (.inl ⟨rfl, rest, hagenda⟩))))
    | ok d hframer => exact absurd hframer.sessionState hchange
  · exact absurd rfl hchange
  · exact absurd rfl hchange
  · exact absurd rfl hchange
  · exact absurd rfl hchange
  · exact .inr (.inr (.inr (.inl (blockStep_ends_loop (s := s.moveOn rest) hchange))))
  · exact .inr (.inr (.inr (.inr (.inr ⟨rfl, rest, hagenda⟩))))

end Transitions

/-! ### Result bytes (41_framer.md rule R153; 10_state.md rule R25) -/

section ResultBytes

variable {s t : State}

/-- From `s` to `t` nothing was sent, or one result byte was, and LAST_RESULT keeps it. -/
def SendsAtMostOne (s t : State) : Prop :=
  (t.txq = s.txq ∧ t.lastResult = s.lastResult) ∨
    ∃ b, (b = 0x01#8 ∨ b = 0x02#8 ∨ b = 0x03#8 ∨ b = 0x05#8) ∧
      t.txq = s.txq ++ [b] ∧ t.lastResult = b

theorem sendsAtMostOne_tryHeader (s : State) : SendsAtMostOne s s.tryHeader := by
  obtain ⟨-, heq⟩ | ⟨_, -, -, -, heq⟩ | ⟨_, -, -, -, heq⟩ | ⟨_, _, -, -, heq⟩ |
    ⟨_, _, -, -, -, -, heq⟩ := tryHeader_cases s <;> rw [heq]
  · exact .inl ⟨rfl, rfl⟩
  · exact .inr ⟨0x05#8, by decide, rfl, rfl⟩
  · exact .inr ⟨0x01#8, by decide, rfl, rfl⟩
  · exact .inr ⟨0x01#8, by decide, rfl, rfl⟩
  · exact .inr ⟨0x05#8, by decide, rfl, rfl⟩

theorem CommandEffect.sendsAtMostOne {i : Instr} (h : CommandEffect s i t) : SendsAtMostOne s t := by
  cases h with
  | headerWhileHeld | readComplete | enterLoop | flush | bounds => exact .inl ⟨rfl, rfl⟩
  | header => exact sendsAtMostOne_tryHeader s
  | readNoSession => exact .inr ⟨0x02#8, by decide, rfl, rfl⟩
  | ok d hframer => exact .inl ⟨hframer.txq, hframer.lastResult⟩

theorem BlockEffect.sendsAtMostOne (h : BlockEffect s t) : SendsAtMostOne s t := by
  cases h with
  | silent h => exact .inl ⟨by rw [h.frame], by rw [h.frame]⟩
  | abort => exact .inr ⟨0x05#8, by decide, rfl, rfl⟩
  | retry => exact .inr ⟨0x03#8, by decide, rfl, rfl⟩
  | commit => exact .inr ⟨0x01#8, by decide, commit_txq, commit_lastResult (s := s)⟩
  | complete => exact .inr ⟨0x01#8, by decide, commit_txq, commit_lastResult (s := s)⟩

/-- Settles O54: of the moves that are not excluded, only the block's step and a command send. -/
theorem resultBytesAreSentOneAtATime : Obligations.ResultBytesAreSentOneAtATime := by
  intro s t hstep hother
  obtain ⟨-, rfl⟩ | ⟨_, _, -, -, rfl⟩ | ⟨_, rest, _, -, -, -, hexec⟩ | ⟨_, _, _, -, -, -, rfl⟩ |
    ⟨_, _, -, rfl⟩ | ⟨rest, hdeliver, -⟩ | ⟨_, -, rfl⟩ | ⟨rest, -, rfl⟩ | ⟨rest, hreset, -⟩ :=
    step_cases hstep
  · exact (blockEffect_blockStep s).sendsAtMostOne
  · exact (blockEffect_blockStep s).sendsAtMostOne
  · exact (commandEffect_of_exec hexec).sendsAtMostOne
  · exact .inl ⟨rfl, rfl⟩
  · exact .inl ⟨rfl, rfl⟩
  · exact absurd hdeliver (hother rest).1
  · exact .inl ⟨rfl, rfl⟩
  · exact (blockEffect_blockStep (s.moveOn rest)).sendsAtMostOne
  · exact absurd hreset (hother rest).2

end ResultBytes

/-! ### RXQ is first-in first-out (20_memory.md rule R79) -/

section ReceiveQueue

variable {s t : State}

theorem tryHeader_rxq_suffix (s : State) : s.tryHeader.rxq <:+ s.rxq := by
  obtain ⟨-, heq⟩ | ⟨_, -, -, -, heq⟩ | ⟨_, -, -, -, heq⟩ | ⟨_, _, -, -, heq⟩ |
    ⟨_, _, -, -, -, -, heq⟩ := tryHeader_cases s <;> rw [heq]
  · exact List.suffix_rfl
  all_goals exact List.drop_suffix _ _

theorem CommandEffect.rxq_suffix {i : Instr} (h : CommandEffect s i t) : t.rxq <:+ s.rxq := by
  cases h with
  | headerWhileHeld | readNoSession | readComplete | enterLoop | flush | bounds =>
    exact List.suffix_rfl
  | header => exact tryHeader_rxq_suffix s
  | ok d hframer =>
    rw [ok_rxq, hframer.rxq]

theorem BlockEffect.rxq_suffix (h : BlockEffect s t) : t.rxq <:+ s.rxq := by
  cases h with
  | silent h => exact h.rxq
  | abort _ hqueue => exact hqueue
  | retry => exact List.suffix_rfl
  | commit | complete => simp

theorem exists_taken_of_suffix (h : t.rxq <:+ s.rxq) : ∃ taken, s.rxq = taken ++ t.rxq := by
  obtain ⟨taken, htaken⟩ := h
  exact ⟨taken, htaken.symm⟩

/-- Settles O55: the block's step and the commands leave a suffix of RXQ, and no other move but a byte
received touches it. -/
theorem rxqIsConsumedFromItsFrontOnly : Obligations.RxqIsConsumedFromItsFrontOnly := by
  intro s t hstep hother
  obtain ⟨-, rfl⟩ | ⟨_, _, -, -, rfl⟩ | ⟨_, rest, _, -, -, -, hexec⟩ | ⟨_, _, _, -, -, -, rfl⟩ |
    ⟨b, rest, hreceive, rfl⟩ | ⟨_, -, rfl⟩ | ⟨_, -, rfl⟩ | ⟨rest, -, rfl⟩ | ⟨rest, hreset, -⟩ :=
    step_cases hstep
  · exact .inr (exists_taken_of_suffix (blockEffect_blockStep s).rxq_suffix)
  · exact .inr (exists_taken_of_suffix (blockEffect_blockStep s).rxq_suffix)
  · exact .inr (exists_taken_of_suffix (commandEffect_of_exec hexec).rxq_suffix)
  · exact .inr ⟨[], rfl⟩
  · exact .inl ⟨b, rest, hreceive, rfl⟩
  · exact .inr ⟨[], rfl⟩
  · exact .inr ⟨[], rfl⟩
  · exact .inr (exists_taken_of_suffix (blockEffect_blockStep (s.moveOn rest)).rxq_suffix)
  · exact absurd hreset (hother rest)

end ReceiveQueue

/-! ### ERR is sticky (10_state.md rule R24) -/

section StickyErrors

variable {s t : State}

/-- `t` has every bit of ERR that `s` has. -/
def KeepsErr (s t : State) : Prop := s.err &&& t.err = s.err

theorem keepsErr_of_eq (h : t.err = s.err) : KeepsErr s t := by
  rw [KeepsErr, h, BitVec.and_self]

/-- Raising an error sets a bit and clears none of those that exist. -/
theorem keepsErr_raise (h : s.readErr = s.err) (e : PortError) : KeepsErr s (s.raise e) := by
  have hmask : s.err &&& 0x03#8 = s.err := h
  have hkeep : ∀ a b : Byte, a &&& (a ||| b) = a := by
    intro a b
    apply BitVec.eq_of_getLsbD_eq
    intro i _
    rw [BitVec.getLsbD_and, BitVec.getLsbD_or]
    cases a.getLsbD i <;> simp
  rw [KeepsErr, raise_eq]
  calc s.err &&& ((s.err ||| e.errBit) &&& 0x03#8)
    _ = s.err &&& (s.err ||| e.errBit) &&& 0x03#8 := (BitVec.and_assoc ..).symm
    _ = s.err := by rw [hkeep, hmask]

theorem tryHeader_err (s : State) : s.tryHeader.err = s.err := by
  obtain ⟨-, heq⟩ | ⟨_, -, -, -, heq⟩ | ⟨_, -, -, -, heq⟩ | ⟨_, _, -, -, heq⟩ |
    ⟨_, _, -, -, -, -, heq⟩ := tryHeader_cases s <;> rw [heq] <;> rfl

theorem CommandEffect.keepsErr {i : Instr} (h : CommandEffect s i t) (hwired : s.readErr = s.err)
    (hi : ∀ d8, i ≠ .errClear d8) : KeepsErr s t := by
  cases h with
  | headerWhileHeld | readNoSession | readComplete | enterLoop | flush => exact keepsErr_of_eq rfl
  | header => exact keepsErr_of_eq (tryHeader_err s)
  | ok d _ herr => exact keepsErr_of_eq (herr hi)
  | bounds => exact keepsErr_raise hwired .bounds

theorem BlockEffect.err (h : BlockEffect s t) : t.err = s.err := by
  cases h with
  | silent h => rw [h.frame]
  | abort | retry => rfl
  | commit | complete => exact commit_err

/-- Settles O56: the block's step leaves ERR, a command but ERR_CLEAR leaves it or raises, and a word other
than ERR_CLEAR's is not decoded as ERR_CLEAR. -/
theorem errBitsAreSticky : Obligations.ErrBitsAreSticky := by
  intro s t h hstep hreset hclear
  have hwired := h.errHardwired
  obtain ⟨-, rfl⟩ | ⟨_, _, -, -, rfl⟩ | ⟨_, rest, i, hagenda, -, hdecode, hexec⟩ |
    ⟨_, rest, _, -, -, -, rfl⟩ | ⟨_, _, -, rfl⟩ | ⟨_, -, rfl⟩ | ⟨_, -, rfl⟩ | ⟨rest, -, rfl⟩ |
    ⟨rest, hat, -⟩ := step_cases hstep
  · exact keepsErr_of_eq (blockEffect_blockStep s).err
  · exact keepsErr_of_eq (blockEffect_blockStep s).err
  · rw [eq_encode_of_decode hdecode] at hagenda
    exact (commandEffect_of_exec hexec).keepsErr hwired fun d8 hi =>
      hclear d8 rest (hi ▸ hagenda)
  · exact keepsErr_raise (s := s.accept rest) hwired .illegal
  · exact keepsErr_of_eq rfl
  · exact keepsErr_of_eq rfl
  · exact keepsErr_of_eq rfl
  · exact keepsErr_of_eq (blockEffect_blockStep (s.moveOn rest)).err
  · exact absurd hat (hreset rest)

end StickyErrors

/-! ### Responses (41_framer.md rule R167; 30_encoding.md rule R101) -/

section Responses

variable {s t : State}

/-- Settles O57: of the block's effects only an abort and a completed session clear BUSY, and each responds
with the byte it has just sent. -/
theorem packetLoopRespondsOkOrUnexpectedData : Obligations.PacketLoopRespondsOkOrUnexpectedData := by
  intro s h hbusy hdone
  have heffect := blockEffect_blockStep s
  generalize blockStep s = t at heffect hdone ⊢
  cases heffect with
  | silent hsame =>
    rw [hsame.frame] at hdone
    simp [hbusy] at hdone
  | abort => exact ⟨_, rfl, rfl, .inr ⟨rfl, rfl⟩⟩
  | retry => simp [State.retryPacket, hbusy] at hdone
  | commit => simp [hbusy] at hdone
  | complete => exact ⟨_, rfl, by simp, .inl ⟨rfl, rfl⟩⟩

theorem tryHeader_responds (s : State) :
    s.tryHeader.busy = false ∧ s.tryHeader.response ≠ none := by
  obtain ⟨-, heq⟩ | ⟨_, -, -, -, heq⟩ | ⟨_, -, -, -, heq⟩ | ⟨_, _, -, -, heq⟩ |
    ⟨_, _, -, -, -, -, heq⟩ := tryHeader_cases s <;> rw [heq] <;>
    exact ⟨rfl, Option.some_ne_none _⟩

/-- A command responds, or it is FR_READ_MESSAGE entering the packet loop. -/
theorem CommandEffect.responds {i : Instr} (h : CommandEffect s i t) :
    (t.busy = false ∧ t.response ≠ none) ∨
      (i = .frReadMessage ∧ s.sessionState = .headerRead ∧ t.busy = s.busy ∧
        t.response = s.response) := by
  cases h with
  | headerWhileHeld | readNoSession | readComplete | flush | ok | bounds =>
    exact .inl ⟨rfl, Option.some_ne_none _⟩
  | header => exact .inl (tryHeader_responds s)
  | enterLoop hheader => exact .inr ⟨rfl, hheader, rfl, rfl⟩

/-- Settles O58: an illegal word raises, and of the commands only FR_READ_MESSAGE in HEADER_READ leaves
what the port set when it took the word. -/
theorem everyOtherCommandRespondsAtOnce : Obligations.EveryOtherCommandRespondsAtOnce := by
  intro s t w rest _ hfree hagenda hstep
  rw [step_of_command hagenda hfree] at hstep
  cases hdecode : decode w with
  | illegal why =>
    rw [runWord_of_illegal hdecode] at hstep
    injection hstep with ht
    exact .inl (ht ▸ ⟨rfl, Option.some_ne_none _⟩)
  | instr i =>
    rw [runWord, hdecode] at hstep
    obtain hresponds | ⟨rfl, hheader, hbusy, hresponse⟩ := (commandEffect_of_exec hstep).responds
    · exact .inl hresponds
    · exact .inr ⟨rfl, hheader, hbusy, hresponse⟩

end Responses

end Sys2Proof.Proofs

namespace Sys2Proof.Proofs

open Sys2Proof.Machine Sys2Proof.Laws

/-! ### Headers that wait or are accepted (41_framer.md rule R156) -/

section Headers

variable {s : State} {rest : List Byte}

theorem tryHeader_of_rxq_nil (h : s.rxq = []) : s.tryHeader = s.respond resNone 0#32 := by
  rw [State.tryHeader, h]

theorem tryHeader_of_short {t : Byte} (h : s.rxq = t :: rest)
    (hshort : s.rxq.length < headerLen t) : s.tryHeader = s.respond resNone 0#32 := by
  rw [h] at hshort
  rw [State.tryHeader, h]
  exact if_pos hshort

/-- An AnimationFrames header with packets opens a session of as many. -/
theorem tryHeader_of_animation {n : Half} (h : s.rxq = headerBytes (.animation n) ++ rest)
    (hn : n ≠ 0#16) : s.tryHeader = (s.consume 3).openSession typeAnimation n := by
  have hrxq : s.rxq = typeAnimation :: (u16Bytes n ++ rest) := h
  have hwhole : ¬ s.rxq.length < headerLen typeAnimation := by simp [hrxq, headerLen, u16Bytes]
  have hcount : u16le s.rxq 1 = n := by
    rw [hrxq]
    exact u16le_u16Bytes [typeAnimation] rest n
  rw [hrxq] at hwhole hcount
  rw [State.tryHeader, hrxq]
  refine (if_neg hwhole).trans ((if_pos rfl).trans ?_)
  rw [hcount, if_neg hn]

theorem tryHeader_of_single_packet {t : Byte} (h : s.rxq = t :: rest)
    (ht : t = typeGameOfLife ∨ t = typeCommand) :
    s.tryHeader = (s.consume 1).openSession t 1#16 := by
  have hanim : t ≠ typeAnimation := by obtain rfl | rfl := ht <;> decide
  have hwhole : ¬ s.rxq.length < headerLen t := by simp [h, headerLen, hanim]
  rw [h] at hwhole
  rw [State.tryHeader, h]
  exact (if_neg hwhole).trans ((if_neg hanim).trans (if_pos ht))

end Headers

/-- Settles O21: an empty RXQ holds no header, and one or two bytes from 0x10 on are fewer than three. -/
theorem tryHeaderWaitsForTheWholeHeader : Obligations.TryHeaderWaitsForTheWholeHeader := by
  rintro s hnone (hempty | ⟨rest, hrxq, hshort⟩) <;> rw [exec_frTryHeader_of_not_held hnone]
  · rw [tryHeader_of_rxq_nil hempty]
    rfl
  · rw [tryHeader_of_short hrxq hshort]
    rfl

/-- Settles O23: each header opens its session on what it leaves of RXQ. -/
theorem tryHeaderOpensTheSession : Obligations.TryHeaderOpensTheSession := by
  constructor
  · intro s n rest hnone hn hrxq
    have hrest : s.rxq.drop 3 = rest := by rw [hrxq]; rfl
    rw [exec_frTryHeader_of_not_held hnone, tryHeader_of_animation hrxq hn, ← hrest]
    rfl
  · intro s t rest hnone ht hrxq
    have hrest : s.rxq.drop 1 = rest := by rw [hrxq]; rfl
    rw [exec_frTryHeader_of_not_held hnone, tryHeader_of_single_packet hrxq ht, ← hrest]
    rfl

/-- Settles O24: FR_READ_MESSAGE by SESSION_STATE. -/
theorem readMessageStartsThePacketLoop : Obligations.ReadMessageStartsThePacketLoop := by
  constructor <;> intro s hstate <;> simp only [exec, execFrReadMessage, hstate]

/-! ### The packet loop, phase by phase (41_framer.md rules R162 to R166) -/

section Phases

variable {s : State} {pre pay rest : List Byte}

theorem blockStep_of_payloadRead (hloop : s.sessionState = .payloadRead) :
    blockStep s = loopStep s := if_pos hloop

/-- Checksum and length are read as soon as their four bytes are in RXQ. -/
theorem blockStep_readPrefix (hloop : s.sessionState = .payloadRead)
    (hphase : s.frPhase = .readPrefix) (hrxq : s.rxq = pre ++ rest) (hlen : pre.length = 4) :
    blockStep s = { s with
      rxq := rest, pktCrc := u16le pre 0, pktLen := u16le pre 2, frPhase := .readPayload } := by
  have htake : s.rxq.take 4 = pre := by rw [hrxq, List.take_left' hlen]
  have hdrop : s.rxq.drop 4 = rest := by rw [hrxq, List.drop_left' hlen]
  have hread : ¬ pre.length < 4 := by omega
  rw [blockStep_of_payloadRead hloop, loopStep, hphase]
  simp only [rxRead_eq, htake, hdrop, prefixStep, if_neg hread]

/-- The payload is read as soon as its declared bytes are in RXQ. -/
theorem blockStep_readPayload (hloop : s.sessionState = .payloadRead)
    (hphase : s.frPhase = .readPayload) (hrxq : s.rxq = pay ++ rest)
    (hlen : pay.length = s.pktLen.toNat) :
    blockStep s = { s with rxq := rest, pktBuf := pay, frPhase := .checkPacket } := by
  have htake : s.rxq.take s.pktLen.toNat = pay := by rw [hrxq, List.take_left' hlen]
  have hdrop : s.rxq.drop s.pktLen.toNat = rest := by rw [hrxq, List.drop_left' hlen]
  have hread : ¬ pay.length < s.pktLen.toNat := by omega
  rw [blockStep_of_payloadRead hloop, loopStep, hphase]
  simp only [rxRead_eq, htake, hdrop, payloadStep, if_neg hread]

/-- A short read takes all of RXQ and aborts. -/
theorem blockStep_short (hloop : s.sessionState = .payloadRead)
    (hshort : (s.frPhase = .readPrefix ∧ s.rxq.length < 4) ∨
      (s.frPhase = .readPayload ∧ s.rxq.length < s.pktLen.toNat)) :
    blockStep s = { s with rxq := [] }.abortAndRespond := by
  rw [blockStep_of_payloadRead hloop]
  have hcases := loopStep_cases s
  obtain ⟨hphase, hlen⟩ | ⟨hphase, hlen⟩ := hshort
  · simp only [hphase, reduceCtorEq, false_and, true_and, false_or, or_false] at hcases
    obtain ⟨-, heq⟩ | ⟨hwhole, -⟩ := hcases
    · exact heq
    · omega
  · simp only [hphase, reduceCtorEq, false_and, true_and, false_or, or_false] at hcases
    obtain ⟨-, heq⟩ | ⟨hwhole, -⟩ := hcases
    · exact heq
    · omega

theorem blockStep_check (hloop : s.sessionState = .payloadRead)
    (hphase : s.frPhase = .checkPacket) : blockStep s = checkStep s := by
  rw [blockStep_of_payloadRead hloop, loopStep, hphase]

theorem blockStep_mismatch (hloop : s.sessionState = .payloadRead)
    (hphase : s.frPhase = .checkPacket) (hcrc : crc16 s.pktBuf ≠ s.pktCrc) :
    blockStep s = s.retryPacket := by
  rw [blockStep_check hloop hphase, checkStep, if_pos hcrc]

theorem blockStep_retryWait (hloop : s.sessionState = .payloadRead)
    (hphase : s.frPhase = .retryWait) : blockStep s = { s with frPhase := .readPrefix } := by
  rw [blockStep_of_payloadRead hloop, loopStep, hphase]

theorem checkStep_abort (hcrc : crc16 s.pktBuf = s.pktCrc)
    (hbad : validPacket s.geom0 s.sessionType s.pktBuf s.pktIndex = false ∨
      s.recordFits = false) : checkStep s = s.abortAndRespond := by
  obtain ⟨hne, -⟩ | ⟨-, -, heq⟩ | ⟨-, hvalid, hfits, -⟩ := checkStep_cases s
  · exact absurd hcrc hne
  · exact heq
  · simp [hvalid, hfits] at hbad

theorem checkStep_commit (hcrc : crc16 s.pktBuf = s.pktCrc)
    (hvalid : validPacket s.geom0 s.sessionType s.pktBuf s.pktIndex = true)
    (hfits : s.recordFits = true) : checkStep s = s.commit.afterCommit := by
  obtain ⟨hne, -⟩ | ⟨-, hbad, -⟩ | ⟨-, -, -, heq⟩ := checkStep_cases s
  · exact absurd hcrc hne
  · simp [hvalid, hfits] at hbad
  · exact heq

end Phases

/-- Settles O26: the two reads phase by phase, and the short read as an abort on an empty RXQ. -/
theorem packetReadOrAbort : Obligations.PacketReadOrAbort := by
  refine ⟨?_, ?_, ?_⟩
  · intro s c0 c1 l0 l1 rest hloop hphase hrxq
    rw [blockStep_readPrefix hloop hphase hrxq rfl]
    rfl
  · intro s pay rest hloop hphase hrxq hlen
    exact blockStep_readPayload hloop hphase hrxq hlen
  · intro s hloop hshort
    rw [blockStep_short hloop hshort]
    rfl

/-- Settles O27: CHECK on a mismatch, and RETRY_WAIT. -/
theorem mismatchIsRetried : Obligations.MismatchIsRetried := by
  constructor
  · intro s hloop hphase hcrc
    rw [blockStep_mismatch hloop hphase hcrc]
    rfl
  · intro s hloop hphase
    exact blockStep_retryWait hloop hphase

/-! ### The record of a payload (41_framer.md rule R178) -/

section Record

variable {t : Byte} {payload record : List Byte}

theorem recordOf_animation (payload : List Byte) : recordOf 0x10#8 payload =
    payload.take (9 + ((payload.getD 2 0#8).toNat + 256 * (payload.getD 3 0#8).toNat)) := by
  rw [← frameBpf_toNat]
  exact if_pos rfl

theorem recordOf_of_ne_animation (h : t ≠ typeAnimation) : recordOf t payload = payload :=
  if_neg h

theorem isTypeId_iff (t : Byte) : isTypeId t = true ↔ t = 0x10#8 ∨ t = 0x11#8 ∨ t = 0x12#8 := by
  simp [isTypeId, or_assoc]

/-- The record as the statements describe it, type by type, is `recordOf`. -/
theorem record_eq_recordOf (ht : isTypeId t = true)
    (hanimation : t = 0x10#8 → record =
      payload.take (9 + ((payload.getD 2 0#8).toNat + 256 * (payload.getD 3 0#8).toNat)))
    (hsingle : t = 0x11#8 ∨ t = 0x12#8 → record = payload) : record = recordOf t payload := by
  obtain rfl | hother := (isTypeId_iff t).1 ht
  · rw [hanimation rfl, recordOf_animation]
  · rw [hsingle hother, recordOf_of_ne_animation]
    obtain rfl | rfl := hother <;> decide

/-- A type that no header has validates nothing. -/
theorem validPacket_of_not_isTypeId (ht : ¬ isTypeId t = true) (g : Geometry) (k : Half) :
    validPacket g t payload k = false := by
  rw [isTypeId_iff, not_or, not_or] at ht
  obtain ⟨hanim, hlife, hcommand⟩ := ht
  rw [validPacket, if_neg hanim, if_neg hlife, if_neg hcommand]

end Record

/-- Settles O28: of a known type the record is `recordOf`, so CHECK finds it not to fit; of any other type
the packet is invalid. -/
theorem invalidOrOverflowingPacketAborts : Obligations.InvalidOrOverflowingPacketAborts := by
  intro s record hanimation hsingle hloop hphase hcrc hbad
  have hreject : validPacket s.geom0 s.sessionType s.pktBuf s.pktIndex = false ∨
      s.recordFits = false := by
    by_cases ht : isTypeId s.sessionType = true
    · rw [record_eq_recordOf ht hanimation hsingle] at hbad
      refine hbad.imp_right fun hover => ?_
      rw [← Bool.not_eq_true, recordFits_iff]
      omega
    · exact .inl (validPacket_of_not_isTypeId ht _ _)
  rw [blockStep_check hloop hphase, checkStep_abort hcrc hreject]
  rfl

end Sys2Proof.Proofs

namespace Sys2Proof.Proofs

open Sys2Proof.Machine Sys2Proof.Laws

/-! ### A commit, element by element (41_framer.md rules R178, R180 and R181) -/

section Commit

variable {s : State}

/-- Everything a commit and what follows it change, with the two ways on from it. -/
theorem afterCommit_commit_eq (hloop : s.sessionState = .payloadRead) :
    s.commit.afterCommit = { s with
      msg := s.commit.msg, msgLen := s.commit.msgLen, geom0 := s.commit.geom0,
      pktIndex := s.commit.pktIndex, txq := s.txq ++ [0x01#8], lastResult := 0x01#8,
      sessionState := if s.commit.pktIndex = s.pktCount then .complete else .payloadRead,
      frPhase := if s.commit.pktIndex = s.pktCount then .none else .readPrefix,
      response := if s.commit.pktIndex = s.pktCount
        then some ⟨0x01#8, s.commit.pktIndex.setWidth 32⟩ else s.response,
      busy := if s.commit.pktIndex = s.pktCount then false else s.busy } := by
  have hcommit : s.commit = { s with
      msg := s.commit.msg, msgLen := s.commit.msgLen, geom0 := s.commit.geom0,
      pktIndex := s.commit.pktIndex, txq := s.txq ++ [0x01#8], lastResult := 0x01#8 } := by
    rw [commit_eq]
  rw [State.afterCommit, commit_pktCount]
  by_cases hlast : s.commit.pktIndex = s.pktCount
  · simp only [if_pos hlast]
    rw [hcommit]
    rfl
  · simp only [if_neg hlast]
    rw [hcommit, hloop]

theorem commit_geom0 : s.commit.geom0 =
    if s.sessionType = 0x10#8 ∧ s.pktIndex = 0#16 then frameGeometry s.pktBuf else s.geom0 := by
  rw [commit_eq, State.captureGeometry]
  exact apply_ite State.geom0 _ _ _

theorem commit_msgLen_toNat (h : s.Inv) (hfits : s.recordFits = true) : s.commit.msgLen.toNat =
    s.msgLen.toNat + (recordOf s.sessionType s.pktBuf).length := by
  rw [commit_eq]
  exact toNat_msgLen_add h (recordFits_iff.1 hfits)

end Commit

/-- What an accepted packet does (41_framer.md rule R180): the effect of one commit of `record`. -/
structure CommitsRecord (s : State) (record : List Byte) (t : State) : Prop where
  msg : ∀ a, t.msg.read a =
    if s.msgLen.toNat ≤ a ∧ a < s.msgLen.toNat + record.length then
      record.getD (a - s.msgLen.toNat) 0#8
    else s.msg.read a
  msgLen : t.msgLen.toNat = s.msgLen.toNat + record.length
  geom0 : t.geom0 = (if s.sessionType = 0x10#8 ∧ s.pktIndex = 0#16 then
    ⟨u16le s.pktBuf 2, s.pktBuf.getD 4 0#8, s.pktBuf.getD 5 0#8⟩ else s.geom0)
  pktIndex : t.pktIndex.toNat = s.pktIndex.toNat + 1
  frame : t = { s with
    msg := t.msg, msgLen := t.msgLen, geom0 := t.geom0, pktIndex := t.pktIndex,
    txq := s.txq ++ [0x01#8], lastResult := 0x01#8,
    sessionState := if t.pktIndex = s.pktCount then .complete else .payloadRead,
    frPhase := if t.pktIndex = s.pktCount then .none else .readPrefix,
    response := if t.pktIndex = s.pktCount then some ⟨0x01#8, t.pktIndex.setWidth 32⟩
      else s.response,
    busy := if t.pktIndex = s.pktCount then false else s.busy }

/-- CHECK commits the record of a packet that matches its checksum, is valid and fits. -/
theorem commitsRecord_blockStep {s : State} {record : List Byte} (h : s.Inv)
    (hrecord : isTypeId s.sessionType = true → record = recordOf s.sessionType s.pktBuf)
    (hphase : s.frPhase = .checkPacket) (hcrc : crc16 s.pktBuf = s.pktCrc)
    (hvalid : validPacket s.geom0 s.sessionType s.pktBuf s.pktIndex = true)
    (hroom : s.msgLen.toNat + record.length ≤ s.params.msgCap) :
    CommitsRecord s record (blockStep s) := by
  have hloop : s.sessionState = .payloadRead := by
    by_contra hnot
    rw [h.phaseIff.2 hnot] at hphase
    cases hphase
  obtain ⟨htype, -, -⟩ := h.held (.inr (.inl hloop))
  obtain rfl := hrecord htype
  have hfits : s.recordFits = true := recordFits_iff.2 hroom
  rw [blockStep_check hloop hphase, checkStep_commit hcrc hvalid hfits, afterCommit_commit_eq hloop]
  exact
  { msg := read_commit s
    msgLen := commit_msgLen_toNat h hfits
    geom0 := commit_geom0
    pktIndex := by rw [commit_pktIndex]; exact toNat_pktIndex_succ h hloop
    frame := rfl }

/-- After a commit the session is COMPLETE and has responded, or the next packet is read. -/
theorem CommitsRecord.ending {s t : State} {record : List Byte} (h : CommitsRecord s record t) :
    (t.pktIndex = s.pktCount ∧ t.sessionState = .complete ∧ t.frPhase = .none ∧ t.busy = false ∧
      t.response = some ⟨0x01#8, s.pktCount.setWidth 32⟩) ∨
    (t.pktIndex ≠ s.pktCount ∧ t.sessionState = .payloadRead ∧ t.frPhase = .readPrefix ∧
      t.busy = s.busy) := by
  have hstate : t.sessionState = if t.pktIndex = s.pktCount then .complete else .payloadRead :=
    congrArg State.sessionState h.frame
  have hphase : t.frPhase = if t.pktIndex = s.pktCount then .none else .readPrefix :=
    congrArg State.frPhase h.frame
  have hbusy : t.busy = if t.pktIndex = s.pktCount then false else s.busy :=
    congrArg State.busy h.frame
  have hresponse : t.response = if t.pktIndex = s.pktCount
      then some ⟨0x01#8, t.pktIndex.setWidth 32⟩ else s.response := congrArg State.response h.frame
  by_cases hlast : t.pktIndex = s.pktCount
  · rw [if_pos hlast] at hstate hphase hbusy hresponse
    exact .inl ⟨hlast, hstate, hphase, hbusy, hlast ▸ hresponse⟩
  · rw [if_neg hlast] at hstate hphase hbusy
    exact .inr ⟨hlast, hstate, hphase, hbusy⟩

/-- Settles O30: what `recordOf` is, and the step CHECK as one commit. -/
theorem acceptedPacketIsCommitted : Obligations.AcceptedPacketIsCommitted := by
  refine ⟨fun payload _ => recordOf_animation payload, fun payload =>
    ⟨recordOf_of_ne_animation (by decide), recordOf_of_ne_animation (by decide)⟩, ?_⟩
  intro s record h hanimation hsingle hphase hcrc hvalid hroom
  have hcommits := commitsRecord_blockStep h
    (fun ht => record_eq_recordOf ht hanimation hsingle) hphase hcrc hvalid hroom
  exact ⟨_, rfl, hcommits.msg, hcommits.msgLen, hcommits.geom0, hcommits.pktIndex, hcommits.frame⟩

/-! ### A frame as it arrives (30_encoding.md rule R104) -/

section Frame

variable {s : State} {crc len : Half} {pay rest : List Byte}

/-- The machine at CHECK, after checksum, length and payload were read. -/
def atCheck (s : State) (crc len : Half) (pay rest : List Byte) : State :=
  { s with rxq := rest, pktCrc := crc, pktLen := len, pktBuf := pay, frPhase := .checkPacket }

/-- Two turns of the block read a frame whose payload is as long as it declares, whatever its bytes. -/
theorem blockStep_blockStep_frame (hloop : s.sessionState = .payloadRead)
    (hphase : s.frPhase = .readPrefix)
    (hrxq : s.rxq = u16Bytes crc ++ u16Bytes len ++ pay ++ rest) (hlen : pay.length = len.toNat) :
    blockStep (blockStep s) = atCheck s crc len pay rest := by
  have hcrc : u16le (u16Bytes crc ++ u16Bytes len) 0 = crc := u16le_u16Bytes [] (u16Bytes len) crc
  have hdeclared : u16le (u16Bytes crc ++ u16Bytes len) 2 = len := by
    have h := u16le_u16Bytes (u16Bytes crc) [] len
    rwa [List.append_nil] at h
  rw [List.append_assoc] at hrxq
  rw [blockStep_readPrefix hloop hphase hrxq rfl, hcrc, hdeclared,
    blockStep_readPayload (s := { s with
      rxq := pay ++ rest, pktCrc := crc, pktLen := len, frPhase := .readPayload }) hloop rfl rfl hlen]
  rfl

theorem BlockEffect.agenda {t : State} (h : BlockEffect s t) : t.agenda = s.agenda := by
  cases h with
  | silent h => rw [h.frame]
  | abort | retry => rfl
  | commit | complete => simp [commit_eq]

theorem blockStep_agenda (s : State) : (blockStep s).agenda = s.agenda :=
  (blockEffect_blockStep s).agenda

/-- With nothing on the agenda a run is the block's own steps. -/
theorem run_of_agenda_nil (k : Nat) (hagenda : s.agenda = []) :
    Host.Core.run Sys2Proof.core k s = .next (blockStep^[k] s) := by
  induction k generalizing s with
  | zero => exact run_zero s
  | succ k ih =>
    exact (run_succ k (step_of_agenda_nil hagenda)).trans (ih ((blockStep_agenda s).trans hagenda))

/-- Two turns answer a mismatch with 0x03 and wait for the packet to come again. -/
theorem blockStep_blockStep_atCheck_mismatch (hloop : s.sessionState = .payloadRead)
    (hcrc : crc16 pay ≠ crc) :
    blockStep (blockStep (atCheck s crc len pay rest)) = { s with
      rxq := rest, txq := s.txq ++ [0x03#8], lastResult := 0x03#8, frPhase := .readPrefix,
      pktCrc := crc, pktLen := len, pktBuf := pay } := by
  have hdelay := blockStep_retryWait (s := (atCheck s crc len pay rest).retryPacket) hloop rfl
  rw [blockStep_mismatch (s := atCheck s crc len pay rest) hloop rfl hcrc, hdelay]
  rfl

theorem length_eq_toNat_ofNat (h : pay.length ≤ 65535) :
    pay.length = (BitVec.ofNat 16 pay.length).toNat := by
  rw [BitVec.toNat_ofNat]
  omega

end Frame

/-- Settles O31: two turns bring the frame to CHECK, where the invariant holds and the third commits. -/
theorem sentFrameIsAccepted : Obligations.SentFrameIsAccepted := by
  intro s payload record rest h hagenda hanimation hsingle hloop hphase hrxq hlen hvalid hroom
  have hdeclared := length_eq_toNat_ofNat hlen
  have hread := blockStep_blockStep_frame hloop hphase hrxq hdeclared
  have hcheck := inv_blockStep (inv_blockStep h)
  rw [hread] at hcheck
  have hcommits := commitsRecord_blockStep (record := record) hcheck
    (fun ht => record_eq_recordOf ht hanimation hsingle) rfl rfl hvalid hroom
  have hrun : Host.Core.run Sys2Proof.core 3 s = .next (blockStep (blockStep (blockStep s))) :=
    run_of_agenda_nil 3 hagenda
  rw [hread] at hrun
  generalize blockStep (atCheck s (crc16 payload) (BitVec.ofNat 16 payload.length) payload rest) = t
    at hcommits hrun
  have hbusy : s.busy = true := h.busyIff.2 hloop
  refine ⟨t, hrun, congrArg State.rxq hcommits.frame, congrArg State.txq hcommits.frame,
    hcommits.pktIndex, hcommits.msgLen, hcommits.msg, ?_⟩
  obtain ⟨hlast, hstate, hnext, hdone, hresponse⟩ | ⟨hmore, hstate, hnext, hgoing⟩ := hcommits.ending
  · exact ⟨⟨fun _ => hlast, fun _ => hstate⟩, .inr ⟨hstate, hnext, hdone, hresponse⟩⟩
  · refine ⟨⟨fun hcomplete => ?_, fun hlast => absurd hlast hmore⟩,
      .inl ⟨hstate, hnext, hgoing.trans hbusy⟩⟩
    rw [hstate] at hcomplete
    cases hcomplete

/-- Settles O32: two turns bring the frame to CHECK, where the corrupted payload's checksum is another than
the declared one; the third asks for the packet again and the fourth ends the delay. -/
theorem corruptedFrameIsRetriedNotAccepted : Obligations.CorruptedFrameIsRetriedNotAccepted := by
  intro s payload rest i b hagenda hloop hphase hi hlen hne hrxq
  have hdeclared := length_eq_toNat_ofNat hlen
  have hcorrupted : crc16 (payload.set i b) ≠ crc16 payload :=
    singleByteCorruptionChangesCrc payload i b hi hne
  have hlength : (payload.set i b).length = (BitVec.ofNat 16 payload.length).toNat := by
    rw [List.length_set, ← hdeclared]
  have hrun : Host.Core.run Sys2Proof.core 4 s =
      .next (blockStep (blockStep (blockStep (blockStep s)))) := run_of_agenda_nil 4 hagenda
  rwa [blockStep_blockStep_frame hloop hphase hrxq hlength,
    blockStep_blockStep_atCheck_mismatch hloop hcorrupted] at hrun

end Sys2Proof.Proofs

namespace Sys2Proof.Proofs

open Sys2Proof.Machine Sys2Proof.Laws

/-! ### The packet loop comes to an end without new bytes (41_framer.md rule R196) -/

section Liveness

variable {s : State}

/-- How many turns the packet loop can still take in a phase before it has read PKT_CRC and PKT_LEN from
what is left of RXQ: every way round the loop takes four bytes and four turns. -/
def phaseRank : Phase → Nat
  | .none => 0
  | .readPrefix => 1
  | .retryWait => 2
  | .checkPacket => 3
  | .readPayload => 4

/-- What every turn of the packet loop brings down. -/
def loopRank (s : State) : Nat := s.rxq.length + phaseRank s.frPhase

/-- The packet loop has ended with a response. -/
def LoopEnded (t : State) : Prop :=
  t.busy = false ∧ (t.sessionState = .complete ∨ t.sessionState = .aborted) ∧ t.response ≠ none

theorem loopEnded_abortAndRespond (s : State) : LoopEnded s.abortAndRespond :=
  ⟨rfl, .inr rfl, Option.some_ne_none _⟩

/-- CHECK ends the loop or goes on to a phase of lower rank. -/
theorem checkStep_ends_or_descends (hloop : s.sessionState = .payloadRead)
    (hphase : s.frPhase = .checkPacket) :
    LoopEnded (checkStep s) ∨
      (checkStep s).sessionState = .payloadRead ∧ loopRank (checkStep s) < loopRank s := by
  obtain ⟨-, heq⟩ | ⟨-, -, heq⟩ | ⟨-, -, -, heq⟩ := checkStep_cases s <;> rw [heq]
  · exact .inr ⟨hloop, by simp [loopRank, State.retryPacket, hphase, phaseRank]⟩
  · exact .inl (loopEnded_abortAndRespond s)
  · rw [State.afterCommit]
    split
    · exact .inl ⟨rfl, .inl rfl, Option.some_ne_none _⟩
    · exact .inr ⟨commit_sessionState.trans hloop, by simp [loopRank, hphase, phaseRank]⟩

/-- A turn of the packet loop ends it or brings the rank down. -/
theorem blockStep_ends_or_descends (h : s.Inv) (hloop : s.sessionState = .payloadRead) :
    LoopEnded (blockStep s) ∨
      (blockStep s).sessionState = .payloadRead ∧ loopRank (blockStep s) < loopRank s := by
  rw [blockStep_of_payloadRead hloop]
  obtain ⟨hphase, -⟩ | ⟨-, -, heq⟩ | ⟨hphase, hread, heq⟩ | ⟨-, -, heq⟩ | ⟨hphase, hread, heq⟩ |
    ⟨hphase, heq⟩ | ⟨hphase, heq⟩ := loopStep_cases s
  · exact absurd hloop (h.phaseIff.1 hphase)
  · exact .inl (heq ▸ loopEnded_abortAndRespond _)
  · refine .inr (heq ▸ ⟨hloop, ?_⟩)
    simp only [loopRank, hphase, phaseRank, List.length_drop]
    omega
  · exact .inl (heq ▸ loopEnded_abortAndRespond _)
  · refine .inr (heq ▸ ⟨hloop, ?_⟩)
    simp only [loopRank, hphase, phaseRank, List.length_drop]
    omega
  · exact heq ▸ checkStep_ends_or_descends hloop hphase
  · exact .inr (heq ▸ ⟨hloop, by simp [loopRank, hphase, phaseRank]⟩)

/-- As many turns as the rank says end the packet loop. -/
theorem exists_loopEnded {n : Nat} (h : s.Inv) (hloop : s.sessionState = .payloadRead)
    (hrank : loopRank s ≤ n) : ∃ k ≤ n, LoopEnded (blockStep^[k] s) := by
  induction n generalizing s with
  | zero =>
    have hphase : s.frPhase ≠ .none := fun hnone => h.phaseIff.1 hnone hloop
    cases hp : s.frPhase <;> simp [loopRank, hp, phaseRank] at hrank hphase
  | succ n ih =>
    obtain hended | ⟨hstill, hless⟩ := blockStep_ends_or_descends h hloop
    · exact ⟨1, by omega, hended⟩
    · obtain ⟨k, hk, hended⟩ := ih (inv_blockStep h) hstill (by omega)
      exact ⟨k + 1, by omega, hended⟩

end Liveness

/-- Settles O33: the rank is at most the bytes of RXQ and four. -/
theorem packetLoopRespondsWhenNoBytesArrive : Obligations.PacketLoopRespondsWhenNoBytesArrive := by
  intro s h hloop hagenda
  have hrank : loopRank s ≤ s.rxq.length + 4 := by
    rw [loopRank]
    cases s.frPhase <;> simp [phaseRank]
  obtain ⟨k, hk, hended⟩ := exists_loopEnded h hloop hrank
  exact ⟨k, _, hk, run_of_agenda_nil k hagenda, hended⟩

/-! ### The endless run of mismatches (41_framer.md rule R196) -/

section EndlessRun

variable {s t : State} {k r : Nat}

/-- In every round of eight steps four bytes 0x00 arrive: a frame with checksum 0 and no payload, whose
checksum is 0xFFFF; then the block reads it, finds the mismatch and waits. -/
def mismatchFeed (n : Nat) : List Move := if n % 8 < 4 then [.receive 0x00#8] else []

/-- Where the packet loop stands at step `r` of a round. -/
inductive RoundPoint : Nat → State → Prop where
  | receiving {t : State} {r : Nat} (hr : r ≤ 4) (hphase : t.frPhase = .readPrefix)
      (hrxq : t.rxq = List.replicate r 0x00#8) : RoundPoint r t
  | payload {t : State} (hphase : t.frPhase = .readPayload) (hrxq : t.rxq = [])
      (hcrc : t.pktCrc = 0#16) (hlen : t.pktLen = 0#16) : RoundPoint 5 t
  | check {t : State} (hphase : t.frPhase = .checkPacket) (hrxq : t.rxq = [])
      (hcrc : t.pktCrc = 0#16) (hbuf : t.pktBuf = []) : RoundPoint 6 t
  | waiting {t : State} (hphase : t.frPhase = .retryWait) (hrxq : t.rxq = []) : RoundPoint 7 t

/-- `t` is in the packet loop that began in `s`, with nothing accepted or answered but `k` mismatches. -/
structure InEndlessRun (s : State) (k : Nat) (t : State) : Prop where
  agenda : t.agenda = []
  sessionState : t.sessionState = .payloadRead
  busy : t.busy = true
  pktIndex : t.pktIndex = s.pktIndex
  response : t.response = s.response
  txq : t.txq = s.txq ++ List.replicate k 0x03#8

/-- A step of the block in the endless run, when nothing is fed. -/
theorem step_fed_nothing (hagenda : t.agenda = []) :
    step { t with agenda := t.agenda ++ [] } = .next (blockStep t) := by
  rw [List.append_nil]
  exact step_of_agenda_nil hagenda

/-- A step of the endless run: at the sixth step of a round 0x03 is sent. -/
theorem endlessRun_step (hrun : InEndlessRun s k t) (hpoint : RoundPoint r t) :
    ∃ u, step { t with agenda := t.agenda ++ mismatchFeed r } = .next u ∧
      InEndlessRun s (if r = 6 then k + 1 else k) u ∧ RoundPoint ((r + 1) % 8) u := by
  have hloop := hrun.sessionState
  cases hpoint with
  | @receiving _ r hr hphase hrxq =>
    obtain rfl | hless : r = 4 ∨ r < 4 := by omega
    · have hread := blockStep_readPrefix (pre := List.replicate 4 0x00#8) (rest := []) hloop hphase
        hrxq rfl
      refine ⟨_, step_fed_nothing hrun.agenda, ?_, ?_⟩ <;> rw [hread]
      · exact { hrun with }
      · exact .payload rfl rfl rfl rfl
    · have hfeed : mismatchFeed r = [.receive 0x00#8] := if_pos (by omega)
      have hnext : (r + 1) % 8 = r + 1 := by omega
      rw [hrun.agenda, hfeed, if_neg (by omega), hnext]
      refine ⟨_, step_of_receive rfl, { hrun with agenda := rfl }, .receiving hless hphase ?_⟩
      rw [List.replicate_succ', ← hrxq]
      rfl
  | payload hphase hrxq hcrc hlen =>
    have hread := blockStep_readPayload (pay := []) (rest := []) hloop hphase hrxq (by rw [hlen]; rfl)
    refine ⟨_, step_fed_nothing hrun.agenda, ?_, ?_⟩ <;> rw [hread]
    · exact { hrun with }
    · exact .check rfl rfl hcrc rfl
  | check hphase hrxq hcrc hbuf =>
    have hmismatch : crc16 t.pktBuf ≠ t.pktCrc := by
      rw [hbuf, hcrc]
      decide
    have hretry := blockStep_mismatch hloop hphase hmismatch
    refine ⟨_, step_fed_nothing hrun.agenda, ?_, ?_⟩ <;> rw [hretry]
    · refine { hrun with txq := ?_ }
      rw [if_pos rfl, List.replicate_succ', ← List.append_assoc, ← hrun.txq]
      rfl
    · exact .waiting rfl hrxq
  | waiting hphase hrxq =>
    have hdelay := blockStep_retryWait hloop hphase
    refine ⟨_, step_fed_nothing hrun.agenda, ?_, ?_⟩ <;> rw [hdelay]
    · exact { hrun with }
    · exact .receiving (by decide) rfl hrxq

theorem mismatchFeed_mod (n : Nat) : mismatchFeed (n % 8) = mismatchFeed n := by
  rw [mismatchFeed, mismatchFeed, Nat.mod_mod]

/-- After n steps the run stands at step n mod 8 of a round and has sent a mismatch for every round whose
CHECK is past. -/
theorem endlessRun_feedRun (hrun : InEndlessRun s 0 s) (hpoint : RoundPoint 0 s) (n : Nat) :
    ∃ t, feedRun mismatchFeed n s = .next t ∧ InEndlessRun s ((n + 1) / 8) t ∧
      RoundPoint (n % 8) t := by
  induction n with
  | zero => exact ⟨s, rfl, hrun, hpoint⟩
  | succ n ih =>
    obtain ⟨t, hfed, hrun, hpoint⟩ := ih
    obtain ⟨u, hstep, hrun', hpoint'⟩ := endlessRun_step hrun hpoint
    rw [mismatchFeed_mod] at hstep
    have hsent : (if n % 8 = 6 then (n + 1) / 8 + 1 else (n + 1) / 8) = (n + 1 + 1) / 8 := by
      split <;> omega
    have hround : (n % 8 + 1) % 8 = (n + 1) % 8 := by omega
    rw [hsent] at hrun'
    rw [hround] at hpoint'
    refine ⟨u, ?_, hrun', hpoint'⟩
    rw [feedRun, hfed]
    exact hstep

end EndlessRun

/-- Settles O34: the environment is `mismatchFeed`; after 8 k steps k mismatches were sent. -/
theorem endlessMismatchRunExists : Obligations.EndlessMismatchRunExists := by
  intro s h hloop hphase hagenda hrxq
  have hrun : InEndlessRun s 0 s :=
    ⟨hagenda, hloop, h.busyIff.2 hloop, rfl, rfl, (List.append_nil _).symm⟩
  have hpoint : RoundPoint 0 s := .receiving (Nat.zero_le 4) hphase hrxq
  have hall := endlessRun_feedRun hrun hpoint
  refine ⟨mismatchFeed, ?_, ?_, ?_⟩
  · intro n m hm
    rw [mismatchFeed] at hm
    split at hm
    · exact ⟨_, List.mem_singleton.1 hm⟩
    · cases hm
  · intro n
    obtain ⟨t, hfed, hrun, -⟩ := hall n
    exact ⟨t, hfed, hrun.busy, hrun.sessionState, hrun.pktIndex, hrun.response⟩
  · intro k
    obtain ⟨t, hfed, hrun, -⟩ := hall (8 * k)
    have hsent : (8 * k + 1) / 8 = k := by omega
    exact ⟨8 * k, t, hfed, hsent ▸ hrun.txq⟩

end Sys2Proof.Proofs

namespace Sys2Proof.Proofs

open Sys2Proof.Machine Sys2Proof.Laws

/-! ### The port, the clock and reset (20_memory.md rule R78; 60_exceptions.md rule R318) -/

section Port

variable {s : State} {rest : List Move}

theorem step_of_command_while_busy {w : Command} (h : s.agenda = .command w :: rest)
    (hbusy : s.busy = true) : step s = .next (blockStep s) := by
  simp [step, h, hbusy]

theorem step_of_tick (h : s.agenda = .tick :: rest) : step s = .next (s.moveOn rest).tickClk := by
  simp [step, h]

theorem step_of_reset (h : s.agenda = .reset :: rest) :
    step s = .next (s.moveOn rest).resetBlock := by
  simp [step, h]

end Port

/-- Settles O6: the port accepts the word, and `runWord` runs the command that it decodes to. -/
theorem stepRunsTheDecodedCommand : Obligations.StepRunsTheDecodedCommand := by
  intro s w rest i hagenda hfree hdecode _
  rw [step_of_command hagenda hfree, runWord, hdecode]
  rfl

/-- Settles O7: the step is the block's own, which leaves the agenda alone. -/
theorem presentedWordWaitsWhileBusy : Obligations.PresentedWordWaitsWhileBusy := by
  intro s w rest hagenda hbusy
  exact ⟨step_of_command_while_busy hagenda hbusy, (blockStep_agenda s).trans hagenda⟩

/-- n ticks add n to CLK, modulo 2^CLK_BITS. -/
theorem run_ticks (n : Nat) {s : State} {rest : List Move}
    (hagenda : s.agenda = List.replicate n .tick ++ rest) (hclk : s.clk < 2 ^ s.params.clkBits) :
    Host.Core.run Sys2Proof.core n s =
      .next { s with agenda := rest, clk := (s.clk + n) % 2 ^ s.params.clkBits } := by
  induction n generalizing s with
  | zero =>
    have hrest : s.agenda = rest := hagenda
    rw [← hrest, Nat.add_zero, Nat.mod_eq_of_lt hclk]
    exact run_zero s
  | succ n ih =>
    have hrest := ih (s := (s.moveOn _).tickClk) rfl (Nat.mod_lt _ (Nat.two_pow_pos _))
    refine (run_succ n (step_of_tick hagenda)).trans (hrest.trans ?_)
    have hsum : ((s.clk + 1) % 2 ^ s.params.clkBits + n) % 2 ^ s.params.clkBits =
        (s.clk + (n + 1)) % 2 ^ s.params.clkBits := by
      rw [Nat.mod_add_mod, Nat.add_assoc, Nat.add_comm 1 n]
    exact congrArg (fun c => Host.Outcome.next { s with agenda := rest, clk := c }) hsum

/-- A wrap of CLK does not change how long ago `c` was. -/
theorem elapsed_mod {c n m : Nat} (hc : c < m) : ((c + n) % m + (m - c % m)) % m = n % m := by
  have hsum : c + n + (m - c) = n + m := by omega
  rw [Nat.mod_eq_of_lt hc, Nat.mod_add_mod, hsum, Nat.add_mod_right]

/-- Settles O9: CLK by induction on the ticks; the elapsed time is then modular arithmetic. -/
theorem elapsedTimeToleratesClockWrap : Obligations.ElapsedTimeToleratesClockWrap :=
  fun n _ _ hagenda hclk => ⟨run_ticks n hagenda hclk, elapsed_mod hclk⟩

/-- Settles O10: reset builds the state element by element. -/
theorem resetGivesTheResetValues : Obligations.ResetGivesTheResetValues := by
  intro s rest hagenda
  refine ⟨_, step_of_reset hagenda, rfl, rfl, rfl, rfl, rfl, rfl, rfl, rfl, rfl, rfl, rfl, rfl, rfl,
    rfl, fun pl c => ?_⟩
  cases pl <;> rfl

/-! ### ERR_CLEAR (43_control.md rule R282) -/

/-- What ERR_CLEAR leaves of ERR: the bits that exist and that D8 does not select. -/
theorem errCleared_eq (s : State) (d8 : Byte) :
    s.errCleared d8 = { s with err := s.err &&& ~~~d8 &&& 0x03#8 } := by
  have hmask : s.err &&& 0x03#8 &&& ~~~d8 &&& 0x03#8 = s.err &&& ~~~d8 &&& 0x03#8 := by
    rw [BitVec.and_assoc s.err, BitVec.and_comm 0x03#8, BitVec.and_assoc, BitVec.and_assoc,
      BitVec.and_self, ← BitVec.and_assoc]
  rw [State.errCleared, State.writeErr, State.readErr, hmask]

theorem exec_errClear (d8 : Byte) (s : State) : exec (.errClear d8) s = .next { s with
    err := s.err &&& ~~~d8 &&& 0x03#8,
    response := some ⟨0x01#8, (s.err &&& ~~~d8 &&& 0x03#8).setWidth 32⟩, busy := false } := by
  have hview : (s.err &&& ~~~d8 &&& 0x03#8) &&& errMask = s.err &&& ~~~d8 &&& 0x03#8 := by
    rw [BitVec.and_assoc, BitVec.and_self]
  rw [exec, execErrClear, errCleared_eq, State.errView, State.readErr, hview]
  rfl

/-- The mask that ERR_CLEAR applies is idempotent. -/
theorem errClear_mask_idempotent (e d : Byte) :
    e &&& ~~~d &&& 0x03#8 &&& ~~~d &&& 0x03#8 = e &&& ~~~d &&& 0x03#8 := by
  apply BitVec.eq_of_getLsbD_eq
  intro i _
  simp only [BitVec.getLsbD_and]
  cases e.getLsbD i <;> cases (~~~d).getLsbD i <;> simp

/-- Only the bits of D8 that ERR has take part. -/
theorem errClear_mask_masked (e d : Byte) :
    e &&& ~~~(d &&& 0x03#8) &&& 0x03#8 = e &&& ~~~d &&& 0x03#8 := by
  apply BitVec.eq_of_getLsbD_eq
  intro i hi
  simp only [BitVec.getLsbD_and, BitVec.getLsbD_not]
  cases d.getLsbD i <;> cases (0x03#8).getLsbD i <;> simp

theorem exec_errClear_idempotent {d8 : Byte} {s t : State}
    (hnext : exec (.errClear d8) s = .next t) : exec (.errClear d8) t = .next t := by
  rw [exec_errClear] at hnext
  injection hnext with ht
  rw [exec_errClear, ← ht, errClear_mask_idempotent]

/-- Settles O13: the new ERR is one mask of the old, idempotent and blind to bits 7:2 of D8. -/
theorem errClearIsWriteOneToClear : Obligations.ErrClearIsWriteOneToClear := by
  refine ⟨exec_errClear, fun _ _ _ hnext => exec_errClear_idempotent hnext, fun d8 s => ?_⟩
  rw [exec_errClear, exec_errClear, errClear_mask_masked]

/-- Settles O14: each CRC command is one update of the state. -/
theorem crcCommandsActOnCrcReg : Obligations.CrcCommandsActOnCrcReg :=
  ⟨fun _ => rfl, fun _ _ => rfl, fun _ => rfl⟩

/-! ### A stream of CRC commands (30_encoding.md rule R112) -/

/-- A state that is not BUSY after CRC commands: CRC_REG, the response and the agenda are new. -/
def afterCrc (s : State) (rest : List Move) (c : Half) (response : Option Response) : State :=
  { s with agenda := rest, crcReg := c, response := response, busy := false }

theorem afterCrc_eq {s : State} (hfree : s.busy = false) (rest : List Move) (c : Half)
    (response : Option Response) :
    afterCrc s rest c response = { s with agenda := rest, crcReg := c, response := response } := by
  rw [afterCrc, hfree]

/-- One CRC_UPDATE a byte folds the bytes into CRC_REG. -/
theorem run_crcUpdates (bytes : List Byte) (k : Nat) (s : State) (rest : List Move) (c : Half)
    (response : Option Response) :
    ∃ response', Host.Core.run Sys2Proof.core (k + bytes.length)
        (afterCrc s ((bytes.map fun b => Move.command (encode (.crcUpdate b))) ++ rest) c response) =
      Host.Core.run Sys2Proof.core k (afterCrc s rest (crcFold c bytes) response') := by
  induction bytes generalizing c response with
  | nil => exact ⟨response, rfl⟩
  | cons b bytes ih =>
    have hdecode := decodeOfEncodeIsTheCommand (.crcUpdate b) rfl
    obtain ⟨response', hrun⟩ := ih (crcStep c b) (some ⟨0x01#8, (crcStep c b).setWidth 32⟩)
    exact ⟨response', (run_succ_of_command (k + bytes.length) rfl rfl hdecode rfl).trans hrun⟩

/-- Settles O18: CRC_INIT seeds the register, the updates fold the bytes, CRC_READ answers it. -/
theorem crcCommandStreamComputesCrc16 : Obligations.CrcCommandStreamComputesCrc16 := by
  intro bytes s rest hfree hagenda
  have hinit := run_succ_of_command (1 + bytes.length) hagenda hfree (by decide)
    (t := afterCrc s _ crcSeed (some ⟨0x01#8, crcSeed.setWidth 32⟩)) rfl
  obtain ⟨response, hupdates⟩ := run_crcUpdates bytes 1 s (.command (encode .crcRead) :: rest) crcSeed
    (some ⟨0x01#8, crcSeed.setWidth 32⟩)
  have hread := run_succ_of_command 0 (i := .crcRead) (rest := rest)
    (s := afterCrc s (.command (encode .crcRead) :: rest) (crc16 bytes) response)
    (t := afterCrc s rest (crc16 bytes) (some ⟨0x01#8, (crc16 bytes).setWidth 32⟩))
    rfl rfl (by decide) rfl
  have hlength : bytes.length + 2 = 1 + bytes.length + 1 := by omega
  rw [hlength, ← afterCrc_eq hfree]
  exact hinit.trans (hupdates.trans hread)

end Sys2Proof.Proofs

namespace Sys2Proof.Proofs

open Sys2Proof.Machine Sys2Proof.Laws

/-! ### The end of a session (41_framer.md rule R190; 20_memory.md rule R85) -/

theorem exec_frFlush (s : State) : exec .frFlush s = .next ((flushed s).ok 0#32) := rfl

/-- Settles O35: the word is FR_FLUSH's one encoding, and its effect is one update of the state. -/
theorem flushReleasesTheMessage : Obligations.FlushReleasesTheMessage :=
  ⟨by decide, exec_frFlush⟩

section Unreadable

variable {s t : State}

/-- No message is held, or it has no bytes. -/
def Unreadable (t : State) : Prop :=
  (t.sessionState ≠ .headerRead ∧ t.sessionState ≠ .complete) ∨ t.msgLen = 0#25

/-- Where no byte is readable, FR_MSG_READ raises Bounds at every address. -/
theorem Unreadable.frMsgRead (h : Unreadable t) (addr : Nat) :
    ∃ u, exec (.frMsgRead addr) t = .next u ∧ u.response = some ⟨0x81#8, 0#32⟩ := by
  refine ⟨t.raise .bounds, ?_, raise_response t .bounds⟩
  obtain hnone | hempty := h
  · exact exec_frMsgRead_of_not_held hnone
  · exact exec_frMsgRead_of_msgLen_le (by rw [hempty]; exact Nat.zero_le addr)

theorem unreadable_of_no_session (h : t.sessionState = .idle ∨ t.sessionState = .aborted) :
    Unreadable t := by
  refine .inl ?_
  obtain h | h := h <;> rw [h] <;> decide

theorem unreadable_of_sessionState_eq (h : t.sessionState = s.sessionState)
    (hnone : s.sessionState = .idle ∨ s.sessionState = .aborted) : Unreadable t :=
  unreadable_of_no_session (h ▸ hnone)

theorem blockStep_of_no_session (hnone : s.sessionState = .idle ∨ s.sessionState = .aborted) :
    blockStep s = s := by
  refine if_neg fun hloop => ?_
  rw [hloop] at hnone
  simp at hnone

/-- A header opens a session without bytes. -/
theorem unreadable_tryHeader (hnone : s.sessionState = .idle ∨ s.sessionState = .aborted) :
    Unreadable s.tryHeader := by
  obtain ⟨-, heq⟩ | ⟨_, -, -, -, heq⟩ | ⟨_, -, -, -, heq⟩ | ⟨_, _, -, -, heq⟩ |
    ⟨_, _, -, -, -, -, heq⟩ := tryHeader_cases s <;> rw [heq]
  · exact unreadable_of_no_session hnone
  · exact unreadable_of_no_session (.inl rfl)
  · exact .inr rfl
  · exact .inr rfl
  · exact unreadable_of_no_session (.inl rfl)

theorem CommandEffect.unreadable {i : Instr} (h : CommandEffect s i t)
    (hnone : s.sessionState = .idle ∨ s.sessionState = .aborted) : Unreadable t := by
  cases h with
  | headerWhileHeld | readNoSession | readComplete | bounds =>
    exact unreadable_of_sessionState_eq rfl hnone
  | header => exact unreadable_tryHeader hnone
  | enterLoop hheader => simp [hheader] at hnone
  | flush => exact unreadable_of_no_session (.inl rfl)
  | ok d hframer => exact unreadable_of_sessionState_eq (s := s) hframer.sessionState hnone

theorem unreadable_of_step (hstep : step s = .next t)
    (hnone : s.sessionState = .idle ∨ s.sessionState = .aborted) : Unreadable t := by
  obtain ⟨-, rfl⟩ | ⟨_, _, -, -, rfl⟩ | ⟨_, rest, _, -, -, -, hexec⟩ | ⟨_, _, _, -, -, -, rfl⟩ |
    ⟨_, _, -, rfl⟩ | ⟨_, -, rfl⟩ | ⟨_, -, rfl⟩ | ⟨rest, -, rfl⟩ | ⟨_, -, rfl⟩ := step_cases hstep
  · rw [blockStep_of_no_session hnone]
    exact unreadable_of_no_session hnone
  · rw [blockStep_of_no_session hnone]
    exact unreadable_of_no_session hnone
  · exact (commandEffect_of_exec hexec).unreadable hnone
  · exact unreadable_of_sessionState_eq rfl hnone
  · exact unreadable_of_sessionState_eq rfl hnone
  · exact unreadable_of_sessionState_eq rfl hnone
  · exact unreadable_of_sessionState_eq rfl hnone
  · rw [blockStep_of_no_session (s := s.moveOn rest) hnone]
    exact unreadable_of_no_session hnone
  · exact unreadable_of_no_session (.inl rfl)

end Unreadable

/-- Settles O38: each of the four leaves a state in which no byte is readable. -/
theorem noStaleMessageByteIsReadable : Obligations.NoStaleMessageByteIsReadable := by
  refine ⟨?_, ?_, ?_, ?_⟩
  · intro s t addr hnext
    injection hnext with ht
    subst ht
    exact (unreadable_of_no_session (.inl rfl)).frMsgRead addr
  · intro s addr _ haborted
    exact (unreadable_of_no_session (.inr haborted)).frMsgRead addr
  · intro s t rest addr hagenda hnext
    rw [step_of_reset hagenda] at hnext
    injection hnext with ht
    subst ht
    exact (unreadable_of_no_session (.inl rfl)).frMsgRead addr
  · intro s t addr hnext hnone
    exact (unreadable_of_step hnext hnone).frMsgRead addr

/-! ### The views of the framer (10_state.md rule R44) -/

section Views

variable (s : State)

/-- Fields put one above the other are the disjunction of the shifted fields. -/
theorem append_eq_or {m n : Nat} (hi : BitVec m) (lo : BitVec n) :
    hi ++ lo = lo.setWidth (m + n) ||| (hi.setWidth (m + n) <<< n) := by
  apply BitVec.eq_of_getLsbD_eq
  intro i hi'
  simp only [BitVec.getLsbD_append, BitVec.getLsbD_or, BitVec.getLsbD_shiftLeft,
    BitVec.getLsbD_setWidth, hi', decide_true, Bool.true_and]
  by_cases hlow : i < n
  · simp [hlow]
  · simp [hlow, BitVec.getLsbD_of_ge lo i (by omega), show i - n < m + n by omega]

/-- A view of three bytes; past its own 8 bits each is 0. -/
theorem append_bytes_eq_or (a b c : Byte) : (0#8 ++ a ++ b ++ c : Data) =
    c.setWidth 32 ||| (b.setWidth 32 <<< 8) ||| (a.setWidth 32 <<< 16) := by
  apply BitVec.eq_of_getLsbD_eq
  intro i hi
  have hc : 8 ≤ i → c.getLsbD i = false := BitVec.getLsbD_of_ge c i
  have hb : 8 ≤ i - 8 → b.getLsbD (i - 8) = false := BitVec.getLsbD_of_ge b (i - 8)
  have ha : 8 ≤ i - 16 → a.getLsbD (i - 16) = false := BitVec.getLsbD_of_ge a (i - 16)
  rw [BitVec.getLsbD_append, BitVec.getLsbD_append, BitVec.getLsbD_append]
  simp only [BitVec.getLsbD_or, BitVec.getLsbD_shiftLeft, BitVec.getLsbD_setWidth,
    BitVec.getLsbD_zero]
  grind

/-- The CURRENT MESSAGE view, its two flags put together as one byte. -/
theorem currentView_eq_bytes : s.currentView = 0#8 ++ 0#8 ++ s.sessionType ++
    (0#6 ++ BitVec.ofBool s.isComplete ++ BitVec.ofBool s.holdsMessage) := by
  have hhigh (x : BitVec 24) (p q : BitVec 1) : x ++ 0#6 ++ p ++ q = x ++ 0#6 ++ (p ++ q) :=
    BitVec.append_assoc
  have hlow (p q : BitVec 1) : 0#6 ++ p ++ q = 0#6 ++ (p ++ q) := BitVec.append_assoc
  rw [State.currentView, hhigh, hlow]
  exact BitVec.append_assoc

theorem currentView_eq : s.currentView =
    (if s.sessionState = .headerRead ∨ s.sessionState = .complete then 1#32 else 0#32) |||
      (if s.sessionState = .complete then 2#32 else 0#32) ||| (s.sessionType.setWidth 32 <<< 8) := by
  rw [currentView_eq_bytes, append_bytes_eq_or, State.isComplete, State.holdsMessage]
  cases s.sessionState <;> simp

/-- The STATUS view, the code of SESSION_STATE extended to a byte. -/
theorem statusView_eq_bytes : s.statusView =
    0#8 ++ s.sessionType ++ s.lastResult ++ (0#5 ++ s.sessionState.code) :=
  BitVec.append_assoc

theorem statusView_eq : s.statusView =
    (match s.sessionState with
      | .idle => 0#32 | .headerRead => 1#32 | .payloadRead => 2#32
      | .complete => 3#32 | .aborted => 4#32) |||
      (s.lastResult.setWidth 32 <<< 8) ||| (s.sessionType.setWidth 32 <<< 16) := by
  rw [statusView_eq_bytes, append_bytes_eq_or]
  cases s.sessionState <;> rfl

end Views

theorem exec_frMsgRead_of_lt {s : State} {addr : Nat}
    (hheld : s.sessionState = .headerRead ∨ s.sessionState = .complete)
    (haddr : addr < s.msgLen.toNat) :
    exec (.frMsgRead addr) s = .next (s.ok ((s.msg.read addr).setWidth 32)) := by
  rw [exec, execFrMsgRead, if_pos ⟨holdsMessage_iff.2 hheld, haddr⟩]

/-- Settles O36: each view as a disjunction of its fields, and the byte that FR_MSG_READ answers. -/
theorem framerViewsAnswerTheirElements : Obligations.FramerViewsAnswerTheirElements := by
  refine ⟨fun s => ?_, fun s => ?_, fun s => ?_, fun s => rfl, fun s addr hheld haddr => ?_⟩
  · rw [← currentView_eq]
    rfl
  · have hview := statusView_eq s
    exact congrArg (fun d => Host.Outcome.next (s.ok d)) hview
  · have hview : s.packetsView = _ := append_eq_or s.pktCount s.pktIndex
    exact congrArg (fun d => Host.Outcome.next (s.ok d)) hview
  · rw [exec_frMsgRead_of_lt hheld haddr]
    rfl

end Sys2Proof.Proofs

namespace Sys2Proof.Proofs

open Sys2Proof.Machine Sys2Proof.Laws

/-! ### The framebuffer's writes as updates of the planes (42_framebuffer.md sections 2, 4 and 5) -/

section Writes

variable (pl : PlaneId) (x y : Int) (s : State)

/-- FB_SET's effect on the planes. -/
def setCell : State := if InB s.params x y then s.writePixel pl (pixelAt x y) true else s

/-- FB_UNSET's effect on the planes: CUR keeps a sticky cell. -/
def unsetCell : State :=
  if InB s.params x y then
    if pl = .cur ∧ s.pixel .pers (pixelAt x y) = true then s
    else s.writePixel pl (pixelAt x y) false
  else s

/-- FB_ADVANCE's effect on the planes. -/
def advanceCell : State :=
  if InB s.params x y then s.writePixel .prev (pixelAt x y) (s.pixel .cur (pixelAt x y)) else s

theorem exec_fbSet : exec (.fbSet pl x y) s = .next ((setCell pl x y s).ok 0#32) := rfl

theorem exec_fbUnset : exec (.fbUnset pl x y) s = .next ((unsetCell pl x y s).ok 0#32) := rfl

theorem exec_fbAdvance : exec (.fbAdvance x y) s = .next ((advanceCell x y s).ok 0#32) := rfl

/-- `u` is `s` but for the planes. -/
def SameButPlanes (s u : State) : Prop :=
  u = { s with planeCur := u.planeCur, planePrev := u.planePrev, planePers := u.planePers }

variable {s} in
theorem SameButPlanes.ok {u : State} (h : SameButPlanes s u) (d : Data) : u.ok d = { s with
    planeCur := (u.ok d).planeCur, planePrev := (u.ok d).planePrev, planePers := (u.ok d).planePers,
    response := some ⟨0x01#8, d⟩, busy := false } := by
  rw [h]
  rfl

theorem sameButPlanes_writePixel (c : Pixel) (bit : Bool) :
    SameButPlanes s (s.writePixel pl c bit) := by
  cases pl <;> rfl

theorem sameButPlanes_setCell : SameButPlanes s (setCell pl x y s) := by
  rw [setCell]
  split
  · exact sameButPlanes_writePixel pl s _ _
  · rfl

theorem sameButPlanes_unsetCell : SameButPlanes s (unsetCell pl x y s) := by
  rw [unsetCell]
  split
  · split
    · rfl
    · exact sameButPlanes_writePixel pl s _ _
  · rfl

variable {x y s} in
/-- Every bit of every plane after the bit of an in-bounds cell is written. -/
theorem pixel_writePixel_of_inB (hin : InB s.params x y) (q : PlaneId) (c : Pixel) (bit : Bool) :
    (s.writePixel pl (pixelAt x y) bit).pixel q c =
      if q = pl ∧ (c.x : Int) = x ∧ (c.y : Int) = y then bit else s.pixel q c :=
  (pixel_writePixel s pl q (pixelAt x y) c bit).trans
    (if_congr (and_congr_right' (eq_pixelAt hin c)) rfl rfl)

theorem pixel_setCell (q : PlaneId) (c : Pixel) : (setCell pl x y s).pixel q c =
    if InB s.params x y ∧ q = pl ∧ (c.x : Int) = x ∧ (c.y : Int) = y then true
    else s.pixel q c := by
  rw [setCell]
  by_cases hin : InB s.params x y
  · rw [if_pos hin, pixel_writePixel_of_inB pl hin]
    exact if_congr (and_iff_right hin).symm rfl rfl
  · rw [if_neg hin, if_neg fun h => hin h.1]

theorem pixel_unsetCell (q : PlaneId) (c : Pixel) : (unsetCell pl x y s).pixel q c =
    if InB s.params x y ∧ q = pl ∧ (c.x : Int) = x ∧ (c.y : Int) = y ∧
        ¬ (pl = .cur ∧ s.pixel .pers c = true) then false
    else s.pixel q c := by
  rw [unsetCell]
  by_cases hin : InB s.params x y
  · rw [if_pos hin]
    have hcell : (c.x : Int) = x ∧ (c.y : Int) = y → c = pixelAt x y := (eq_pixelAt hin c).2
    by_cases hsticky : pl = .cur ∧ s.pixel .pers (pixelAt x y) = true
    · rw [if_pos hsticky, if_neg]
      rintro ⟨-, -, hx, hy, hnot⟩
      exact hnot (hcell ⟨hx, hy⟩ ▸ hsticky)
    · rw [if_neg hsticky, pixel_writePixel_of_inB pl hin]
      refine if_congr ⟨?_, ?_⟩ rfl rfl
      · rintro ⟨hq, hx, hy⟩
        exact ⟨hin, hq, hx, hy, (hcell ⟨hx, hy⟩).symm ▸ hsticky⟩
      · rintro ⟨-, hq, hx, hy, -⟩
        exact ⟨hq, hx, hy⟩
  · rw [if_neg hin, if_neg fun h => hin h.1]

theorem pixel_advanceCell (q : PlaneId) (c : Pixel) : (advanceCell x y s).pixel q c =
    if InB s.params x y ∧ q = .prev ∧ (c.x : Int) = x ∧ (c.y : Int) = y then s.pixel .cur c
    else s.pixel q c := by
  rw [advanceCell]
  by_cases hin : InB s.params x y
  · rw [if_pos hin, pixel_writePixel_of_inB .prev hin]
    by_cases hcell : q = .prev ∧ (c.x : Int) = x ∧ (c.y : Int) = y
    · rw [if_pos hcell, if_pos ⟨hin, hcell⟩, (eq_pixelAt hin c).2 hcell.2]
    · rw [if_neg hcell, if_neg fun h => hcell h.2]
  · rw [if_neg hin, if_neg fun h => hin h.1]

end Writes

/-- Settles O39: `setCell` bit by bit. -/
theorem fbSetWritesOneBit : Obligations.FbSetWritesOneBit := by
  intro pl x y s
  refine ⟨_, exec_fbSet pl x y s, fun q c => ?_, (sameButPlanes_setCell pl x y s).ok 0#32⟩
  rw [ok_pixel, pixel_setCell]

/-- Settles O40: `unsetCell` bit by bit. -/
theorem fbUnsetClearsOneBitUnlessSticky : Obligations.FbUnsetClearsOneBitUnlessSticky := by
  intro pl x y s
  refine ⟨_, exec_fbUnset pl x y s, fun q c => ?_, (sameButPlanes_unsetCell pl x y s).ok 0#32⟩
  rw [ok_pixel, pixel_unsetCell]

/-- Settles O44: `advanceCell` bit by bit; of the planes it writes PREV alone. -/
theorem advanceCopiesOneCell : Obligations.AdvanceCopiesOneCell := by
  intro x y s
  refine ⟨_, exec_fbAdvance x y s, fun q c => ?_, ?_⟩
  · rw [ok_pixel, pixel_advanceCell]
  · rw [advanceCell]
    split <;> rfl

/-- Settles O45: PREV is CUR's list of cells, so that no cell is dirty and a second copy is the same. -/
theorem advanceAllCopiesEveryCell : Obligations.AdvanceAllCopiesEveryCell := by
  intro s
  exact ⟨{ s with planePrev := s.planeCur }.ok 0#32, rfl, fun _ _ => rfl, rfl,
    exec_fbDirtyCount_of_planes_eq rfl, rfl⟩

/-! ### The clears (42_framebuffer.md section 4) -/

section Clears

variable {s : State} {p : Bool} {pick : Pixel → Bool} {c : Pixel} {P : Prop} [Decidable P]

theorem pixel_pers_clearCells (hpick : pick c = true ↔ P) : (s.clearCells p pick).pixel .pers c =
    if p = true ∧ P then false else s.pixel .pers c := by
  rw [pixel_clearCells]
  by_cases hP : P
  · cases p <;> simp [hP, hpick.2 hP]
  · have hout : pick c = false := by rwa [← Bool.not_eq_true, hpick]
    simp [hP, hout]

theorem pixel_cur_clearCells (hpick : pick c = true ↔ P) : (s.clearCells p pick).pixel .cur c =
    if (p = true ∨ s.pixel .pers c = false) ∧ P then false else s.pixel .cur c := by
  rw [pixel_clearCells]
  by_cases hP : P
  · cases p <;> cases s.pixel .pers c <;> simp [hP, hpick.2 hP]
  · have hout : pick c = false := by rwa [← Bool.not_eq_true, hpick]
    simp [hP, hout]

theorem pixel_prev_clearCells : (s.clearCells p pick).pixel .prev c = s.pixel .prev c := by
  rw [pixel_clearCells]

theorem clearCells_ok (d : Data) : (s.clearCells p pick).ok d = { s with
    planeCur := ((s.clearCells p pick).ok d).planeCur,
    planePers := ((s.clearCells p pick).ok d).planePers,
    response := some ⟨0x01#8, d⟩, busy := false } := by
  cases p <;> rfl

end Clears

/-- Settles O42: both commands are one clear, of the cells that `inRegion` and `onScreen` pick. -/
theorem clearFollowsThePersistenceRule : Obligations.ClearFollowsThePersistenceRule := by
  constructor
  · intro p x y wd ht s
    have hpick (c : Pixel) := inRegion_iff s.params x y wd ht c
    refine ⟨_, rfl, fun c => ?_, fun c => ?_, fun c => ?_, clearCells_ok 0#32⟩ <;> rw [ok_pixel]
    · exact pixel_prev_clearCells
    · exact pixel_pers_clearCells (hpick c)
    · exact pixel_cur_clearCells (hpick c)
  · intro p s
    have hpick (c : Pixel) := onScreen_iff s.params c
    refine ⟨_, rfl, fun c => ?_, fun c => ?_, fun c => ?_, clearCells_ok 0#32⟩ <;> rw [ok_pixel]
    · exact pixel_prev_clearCells
    · exact pixel_pers_clearCells (hpick c)
    · exact pixel_cur_clearCells (hpick c)

/-! ### Reads of cells, counts and rows (42_framebuffer.md sections 3, 5 and 6) -/

section Reads

variable {s : State} {x y : Int}

theorem setWidth_ofBool (b : Bool) : (BitVec.ofBool b).setWidth 32 = if b then 1#32 else 0#32 := by
  cases b <;> rfl

theorem exec_fbIsSet_of_inB (pl : PlaneId) (hin : InB s.params x y) : exec (.fbIsSet pl x y) s =
    .next (s.ok ((BitVec.ofBool (s.pixel pl (pixelAt x y))).setWidth 32)) := by
  rw [exec, execFbIsSet, if_pos hin]

theorem exec_fbIsDirty_of_inB (hin : InB s.params x y) : exec (.fbIsDirty x y) s =
    .next (s.ok ((BitVec.ofBool (s.dirty (pixelAt x y))).setWidth 32)) := by
  rw [exec, execFbIsDirty, if_pos hin]

theorem dirty_iff (c : Pixel) : s.dirty c = true ↔ s.pixel .cur c ≠ s.pixel .prev c := by
  rw [State.dirty]
  cases s.pixel .cur c <;> cases s.pixel .prev c <;> decide

/-- The GEOMETRY view as a number. -/
theorem geometryView_toNat (h : s.params.Legal) :
    s.geometryView.toNat = s.params.fbW + 65536 * s.params.fbH := by
  obtain ⟨⟨-, hw⟩, ⟨-, hh⟩, -⟩ := h
  have hlow : (BitVec.ofNat 16 s.params.fbW).toNat < 2 ^ 16 := BitVec.isLt _
  rw [State.geometryView, BitVec.toNat_append, ← Nat.shiftLeft_add_eq_or_of_lt hlow, Nat.shiftLeft_eq,
    BitVec.toNat_ofNat, BitVec.toNat_ofNat]
  omega

end Reads

/-- Settles O41: the bit, the comparison of two bits, and the two fields of the GEOMETRY view. -/
theorem cellReadsAnswerTheBits : Obligations.CellReadsAnswerTheBits := by
  refine ⟨fun pl x y s hin => ?_, fun x y s hin => ?_, fun s hlegal => ?_⟩
  · rw [exec_fbIsSet_of_inB pl hin, setWidth_ofBool]
    rfl
  · have hbit : (if s.dirty (pixelAt x y) then 1#32 else 0#32) =
        if s.pixel .cur (pixelAt x y) = s.pixel .prev (pixelAt x y) then 0#32 else 1#32 :=
      (if_congr (dirty_iff _) rfl rfl).trans (ite_not _ _ _)
    rw [exec_fbIsDirty_of_inB hin, setWidth_ofBool, hbit]
    rfl
  · exact ⟨s.geometryView, rfl, geometryView_toNat hlegal⟩

section Count

variable (s : State)

theorem countP_range (p : Nat → Bool) (n : Nat) :
    (List.range n).countP p = ∑ i ∈ Finset.range n, if p i then 1 else 0 := by
  induction n with
  | zero => rfl
  | succ n ih =>
    rw [List.range_succ, List.countP_append, ih, Finset.sum_range_succ, List.countP_singleton]

theorem sum_map_range (f : Nat → Nat) (n : Nat) :
    ((List.range n).map f).sum = ∑ i ∈ Finset.range n, f i := by
  induction n with
  | zero => rfl
  | succ n ih => simp [List.range_succ, ih, Finset.sum_range_succ]

/-- The cells of the screen row by row are the pairs of a column and a row. -/
theorem dirtyCount_eq_card : s.dirtyCount =
    ((Finset.range s.params.fbW ×ˢ Finset.range s.params.fbH).filter fun c =>
      s.pixel .cur ⟨c.1, c.2⟩ ≠ s.pixel .prev ⟨c.1, c.2⟩).card := by
  rw [Finset.card_filter, Finset.sum_product_right, State.dirtyCount, screenCells, List.countP_flatMap,
    sum_map_range]
  refine Finset.sum_congr rfl fun y _ => ?_
  rw [Function.comp_apply, List.countP_map, countP_range]
  exact Finset.sum_congr rfl fun x _ => if_congr (dirty_iff _) rfl rfl

theorem dirtyCount_lt (h : s.params.Legal) : s.dirtyCount < 2 ^ 32 := by
  obtain ⟨⟨-, hw⟩, ⟨-, hh⟩, -⟩ := h
  calc s.dirtyCount
    _ ≤ (Finset.range s.params.fbW ×ˢ Finset.range s.params.fbH).card := by
      rw [dirtyCount_eq_card]
      exact Finset.card_filter_le _ _
    _ = s.params.fbW * s.params.fbH := by simp
    _ ≤ 2047 * 2047 := Nat.mul_le_mul hw hh
    _ < 2 ^ 32 := by norm_num

end Count

/-- Settles O46: the count is the number of such pairs, which 32 bits hold. -/
theorem dirtyCountCountsTheDifferingCells : Obligations.DirtyCountCountsTheDifferingCells := by
  intro s hlegal
  refine ⟨BitVec.ofNat 32 s.dirtyCount, rfl, ?_⟩
  rw [BitVec.toNat_ofNat, Nat.mod_eq_of_lt (dirtyCount_lt s hlegal), dirtyCount_eq_card]

section Rows

variable {s : State}

theorem exec_fbReadRow8_of_inRowView (pl : PlaneId) {xb y : Int} (h : InRowView s.params xb y) :
    exec (.fbReadRow8 pl xb y) s = .next (s.ok ((s.rowByte pl xb.toNat y.toNat).setWidth 32)) := by
  rw [exec, execFbReadRow8, if_pos h]

end Rows

/-- Settles O47: the byte is `rowByte`, whose bits are the row's pixels. -/
theorem readRow8PacksEightPixels : Obligations.ReadRow8PacksEightPixels := by
  intro pl xb y s hxb hxb' hy hy'
  exact ⟨s.rowByte pl xb.toNat y.toNat, exec_fbReadRow8_of_inRowView pl ⟨⟨hxb, hxb'⟩, hy, hy'⟩,
    fun i hi => rowByte_bit s pl xb.toNat y.toNat i hi⟩

/-- Pixel 8 xb + i of a frame's row is bit 7 - i of the row's byte xb. -/
theorem framePixel_in_byte (frame : List Byte) (row xb : Nat) {i : Nat} (hi : i < 8) :
    framePixel frame (8 * xb + i) row =
      (frame.getD (9 + row * (((frame.getD 5 0#8).toNat + 7) / 8) + xb) 0#8).getLsbD (7 - i) := by
  have hdiv : (8 * xb + i) / 8 = xb := by omega
  have hmod : (8 * xb + i) % 8 = i := by omega
  rw [framePixel, hdiv, hmod]
  rfl

/-- Settles O48: bit by bit, a pixel of the row inside the frame is the frame's, and the padding is 0 in
both. -/
theorem drawnFrameRowReadsBack : Obligations.DrawnFrameRowReadsBack := by
  refine ⟨fun _ _ _ _ => rfl, ?_⟩
  intro s frame rows cols xb row y _ hcols _ hwidth _ hy hxb hdrawn hpadding
  have hview : InRowView s.params xb y := by
    have hbytes : (cols + 7) / 8 ≤ ceil8 s.params.fbW := Nat.div_le_div_right (by omega)
    exact ⟨⟨by omega, by omega⟩, by omega, by omega⟩
  have hbyte : s.rowByte .cur xb y = frame.getD (9 + row * ((cols + 7) / 8) + xb) 0#8 := by
    apply BitVec.eq_of_getLsbD_eq
    intro j hj
    obtain ⟨i, hi, rfl⟩ : ∃ i, i < 8 ∧ j = 7 - i := ⟨7 - j, by omega, by omega⟩
    rw [rowByte_bit s .cur xb y i hi, hcols, ← framePixel_in_byte frame row xb hi, State.rowBit]
    by_cases hin : 8 * xb + i < cols
    · rw [hdrawn _ hin, decide_eq_true (by omega), Bool.true_and]
    · obtain ⟨hdark, hzero⟩ := hpadding (8 * xb + i) (by omega) (by omega)
      rw [hdark, hzero, Bool.and_false]
  rw [exec_fbReadRow8_of_inRowView .cur hview, Int.toNat_natCast, Int.toNat_natCast, hbyte]
  rfl

/-! ### Idempotence (20_memory.md rule R75) -/

section Idempotence

variable {s t : State}

theorem setBit_setBit (c : Pixel) (p : PixelPlane) : (p.setBit c).setBit c = p.setBit c := by
  induction p with
  | nil => simp [PixelPlane.setBit]
  | cons d p ih =>
    by_cases hcd : c = d
    · simp [PixelPlane.setBit, hcd]
    · by_cases hbefore : c.before d = true
      · simp [PixelPlane.setBit, hcd, hbefore]
      · simp [PixelPlane.setBit, hcd, hbefore, ih]

theorem clearIf_clearIf (pick : Pixel → Bool) (p : PixelPlane) :
    (p.clearIf pick).clearIf pick = p.clearIf pick := by
  simp [PixelPlane.clearIf]

theorem writeBit_writeBit (c : Pixel) (bit : Bool) (p : PixelPlane) :
    (p.writeBit c bit).writeBit c bit = p.writeBit c bit := by
  cases bit with
  | false => exact clearIf_clearIf _ p
  | true => exact setBit_setBit c p

theorem plane_writePixel (pl : PlaneId) (c : Pixel) (bit : Bool) :
    (s.writePixel pl c bit).plane pl = (s.plane pl).writeBit c bit := by
  cases pl <;> rfl

@[simp] theorem ok_plane (d : Data) (pl : PlaneId) : (s.ok d).plane pl = s.plane pl := by
  cases pl <;> rfl

theorem writePixel_of_plane_eq {pl : PlaneId} {c : Pixel} {bit : Bool}
    (h : (s.plane pl).writeBit c bit = s.plane pl) : s.writePixel pl c bit = s := by
  rw [State.writePixel, h]
  cases pl <;> rfl

/-- Writing a bit once more changes nothing, a response between the two notwithstanding. -/
theorem writePixel_ok_writePixel (pl : PlaneId) (c : Pixel) (bit : Bool) (d : Data) :
    ((s.writePixel pl c bit).ok d).writePixel pl c bit = (s.writePixel pl c bit).ok d :=
  writePixel_of_plane_eq (by rw [ok_plane, plane_writePixel, writeBit_writeBit])

theorem setCell_ok_setCell (pl : PlaneId) (x y : Int) (d : Data) :
    setCell pl x y ((setCell pl x y s).ok d) = (setCell pl x y s).ok d := by
  by_cases hin : InB s.params x y
  · have hset : setCell pl x y s = s.writePixel pl (pixelAt x y) true := if_pos hin
    rw [hset, setCell, if_pos (by simpa using hin), writePixel_ok_writePixel]
  · have hset : setCell pl x y s = s := if_neg hin
    rw [hset]
    exact if_neg hin

theorem unsetCell_ok_unsetCell (pl : PlaneId) (x y : Int) (d : Data) :
    unsetCell pl x y ((unsetCell pl x y s).ok d) = (unsetCell pl x y s).ok d := by
  by_cases hin : InB s.params x y
  · by_cases hsticky : pl = .cur ∧ s.pixel .pers (pixelAt x y) = true
    · have hunset : unsetCell pl x y s = s := by rw [unsetCell, if_pos hin, if_pos hsticky]
      rw [hunset, unsetCell, ok_params, ok_pixel, if_pos hin, if_pos hsticky]
    · have hunset : unsetCell pl x y s = s.writePixel pl (pixelAt x y) false := by
        rw [unsetCell, if_pos hin, if_neg hsticky]
      rw [hunset, unsetCell, if_pos (by simpa using hin)]
      split
      · rfl
      · exact writePixel_ok_writePixel pl _ false d
  · have hunset : unsetCell pl x y s = s := if_neg hin
    rw [hunset]
    exact if_neg hin

theorem advanceCell_ok_advanceCell (x y : Int) (d : Data) :
    advanceCell x y ((advanceCell x y s).ok d) = (advanceCell x y s).ok d := by
  by_cases hin : InB s.params x y
  · have hadvance : advanceCell x y s =
        s.writePixel .prev (pixelAt x y) (s.pixel .cur (pixelAt x y)) := if_pos hin
    have hcur : ((s.writePixel .prev (pixelAt x y) (s.pixel .cur (pixelAt x y))).ok d).pixel .cur
        (pixelAt x y) = s.pixel .cur (pixelAt x y) := rfl
    rw [hadvance, advanceCell, if_pos (by simpa using hin), hcur, writePixel_ok_writePixel]
  · have hadvance : advanceCell x y s = s := if_neg hin
    rw [hadvance]
    exact if_neg hin

/-- Clearing the same cells once more changes nothing; with p = 0, PERS is what it was. -/
theorem clearCells_ok_clearCells (p : Bool) (pick : Pixel → Bool) (d : Data) :
    ((s.clearCells p pick).ok d).clearCells p pick = (s.clearCells p pick).ok d := by
  cases p with
  | true =>
    have hcur := clearIf_clearIf pick s.planeCur
    have hpers := clearIf_clearIf pick s.planePers
    exact congrArg₂ (fun cur pers => ({ s with planeCur := cur, planePers := pers } : State).ok d)
      hcur hpers
  | false =>
    have hcur := clearIf_clearIf (fun c => pick c && !s.pixel .pers c) s.planeCur
    exact congrArg (fun cur => ({ s with planeCur := cur } : State).ok d) hcur

/-- A command is idempotent when its update `f` of the state leaves its own outcome alone. -/
theorem exec_idempotent {i : Instr} {f : State → State} {d : Data}
    (hexec : ∀ u, exec i u = .next ((f u).ok d)) (hfixed : f ((f s).ok d) = (f s).ok d)
    (h : exec i s = .next t) : exec i t = .next t := by
  rw [hexec] at h
  injection h with ht
  rw [← ht, hexec, hfixed]
  rfl

end Idempotence

/-- Settles O59: the update of each command leaves its own outcome alone; ERR_CLEAR is O13's. -/
theorem listedWriteCommandsAreIdempotent : Obligations.ListedWriteCommandsAreIdempotent := by
  rintro s t i (⟨pl, x, y, rfl⟩ | ⟨pl, x, y, rfl⟩ | ⟨p, rfl⟩ | ⟨p, x, y, wd, ht, rfl⟩ |
    ⟨x, y, rfl⟩ | rfl | rfl | rfl | ⟨d8, rfl⟩) hnext
  · exact exec_idempotent (exec_fbSet pl x y) (setCell_ok_setCell pl x y _) hnext
  · exact exec_idempotent (exec_fbUnset pl x y) (unsetCell_ok_unsetCell pl x y _) hnext
  · have hfixed := clearCells_ok_clearCells (s := s) p (onScreen s.params) 0#32
    refine exec_idempotent (f := fun u => u.clearCells p (onScreen u.params)) (fun _ => rfl) ?_ hnext
    simpa only [ok_params, clearCells_params] using hfixed
  · have hfixed := clearCells_ok_clearCells (s := s) p (inRegion s.params x y wd ht) 0#32
    refine exec_idempotent (f := fun u => u.clearCells p (inRegion u.params x y wd ht))
      (fun _ => rfl) ?_ hnext
    simpa only [ok_params, clearCells_params] using hfixed
  · exact exec_idempotent (exec_fbAdvance x y) (advanceCell_ok_advanceCell x y _) hnext
  · exact exec_idempotent (f := fun u => { u with planePrev := u.planeCur }) (fun _ => rfl) rfl hnext
  · exact exec_idempotent (f := withCrcReg crcSeed) (fun _ => rfl) rfl hnext
  · exact exec_idempotent exec_frFlush rfl hnext
  · exact exec_errClear_idempotent hnext

end Sys2Proof.Proofs
